-- ==== Sys2Proof/Word.lean ====
section
/-! DEFINITION. The byte, the only word type the links of the TQ48 carry. Everything else the manual counts or
measures (ranges, angles, chainages, counts) is an integer with a stated range and is held as `Nat` or `Int`. -/

namespace Sys2Proof

/-- One data byte of a head link or recorder link frame (§12). -/
abbrev Byte := BitVec 8

end Sys2Proof
end

