-- ==== Sys2Proof/Config.lean ====
section
/-! DEFINITION. What the device fixes once and for all: the capacities of §0.8, the identity of R169, the line rates
of §0.3, and the one value the manual leaves open. -/

namespace Sys2Proof.Config

/-- Open intrusions the intrusion table can hold (§0.8, R78). -/
def maxIntrusions : Nat := 16
/-- Event queue capacity (§0.8, R158). -/
def maxEvents : Nat := 64
/-- Request queue capacity (§0.8, R166). -/
def maxRequests : Nat := 4
/-- Response queue places, reserved ones included (§0.8, R166). -/
def maxResponses : Nat := 4
/-- Route table entries (§0.8, R107). -/
def maxRoute : Nat := 512
/-- Points a profile slot can hold (§0.8, R160). -/
def maxPoints : Nat := 4096
/-- Ids the adjusted list can hold (R153). -/
def maxAdjusted : Nat := 8
/-- Consecutive K28.5 symbols that give symbol lock (§1.1). -/
def symbolLockRun : Nat := 3
/-- Consecutive invalid symbols that end symbol lock (§1.1). -/
def symbolLossRun : Nat := 4
/-- Good frames that give head link lock (R2). -/
def lockRun : Nat := 4
/-- Consecutive bad frames that end head link lock (R3). -/
def unlockRun : Nat := 8
/-- Consecutive discarded rings that raise HEAD_UNSTABLE (R13). -/
def maxDiscards : Nat := 4
/-- Top of the 32-bit saturating counts (R7, R8, R12, R159). -/
def top32 : Nat := 4294967295
/-- Accumulator units in one millimetre (§5.4, R95). -/
def unitsPerMm : Int := 131072
/-- Lower end of the accumulator's range, −2^48 (R93). -/
def accumulatorMin : Int := -281474976710656
/-- Upper end of the accumulator's range, 2^48 − 1 (R93). -/
def accumulatorMax : Int := 281474976710655
/-- Microseconds between two odometer updates (R92). -/
def updatePeriod : Nat := 1000
/-- Reference clock cycles in one microsecond (§0.3: 25 MHz). -/
def cyclesPerMicrosecond : Nat := 25
/-- Reference clock cycles of one bit on HC_TXD (R173). -/
def cyclesPerBit : Nat := 217
/-- Bits a byte takes on HC_TXD: start, eight data, stop (R173). -/
def bitsPerByte : Nat := 10
/-- Symbols the downstream half sends in one microsecond: 200 Mbit/s at ten bits a symbol (§0.3, §9.6). -/
def symbolsPerMicrosecond : Nat := 20
/-- The part code, the characters T, Q, 4, 8 (R169, §12.3). -/
def partCode : List Byte := [0x54, 0x51, 0x34, 0x38]
/-- The silicon revision of the parts this edition describes (R169). -/
def revision : Byte := 1

/-- FREE VALUE (log entry 12): the four spacing bytes of a profile header whose ring has no spacing. §12.4 calls the
field meaningful only when flag bit 4 is set, and R183 excepts it from the absent markers; no value is stated. The
argument is the serial number of the draw (`State.freeIndex`). -/
opaque absentSpacing : Nat → BitVec 32

end Sys2Proof.Config
end

