-- ==== Sys2Proof/Syntax.lean ====
section
/-! DEFINITION. The commands of the block: one constructor of `Instr` per row of spec/opcode_table.json. A request
row (IDENTIFY to RESET) is the Management Agent's performing of the oldest queued request (R167); its operands are the
payload bytes that REQUEST_FRAME queued, so the constructor itself carries none. -/

namespace Sys2Proof

/-- The level of a discrete input (§5.1). -/
inductive Level where
  | low
  | high
deriving DecidableEq, Repr

/-- A wheel channel (§5.1). -/
inductive Wheel where
  | left
  | right
deriving DecidableEq, Repr

/-- The six filtered discrete inputs (§0.3). -/
inductive InputPin where
  | whlA
  | whlB
  | whrA
  | whrB
  | tagStb
  | markKey
deriving DecidableEq, Repr

/-- The two inputs whose falling edge is a step of its own (R117). -/
inductive EdgeInput where
  | tagStb
  | markKey
deriving DecidableEq, Repr

/-- What the receiver of a serial link gets (§1.1): a data byte, the idle symbol K28.5, the start delimiter K27.7, or an
invalid symbol, which is ten bits that form no symbol of the code, a symbol that breaks the running disparity, or another
control symbol. The sender says which (log entry 28). -/
inductive Symbol where
  | data (b : Byte)
  | idle
  | delimiter
  | invalid
deriving DecidableEq, Repr

/-- The commands, in the order of spec/opcode_table.json. -/
inductive Instr where
  /-- HEAD_FRAME_GOOD (R1, R2): the next head link symbols, with which a good frame begins, goes on or ends. -/
  | headFrameGood (symbols : List Symbol)
  /-- HEAD_FRAME_BAD (R1, R3): the next head link symbols, with which a bad frame begins, goes on or ends. -/
  | headFrameBad (symbols : List Symbol)
  /-- HEAD_STALL (R14). -/
  | headStall
  /-- ODOMETER_UPDATE (R92). -/
  | odometerUpdate
  /-- WHEEL_DECODE (R89): the wheel and the levels of its A and B inputs at the sample that completed the change. -/
  | wheelDecode (wheel : Wheel) (a b : Level)
  /-- TAG_STROBE (R118). -/
  | tagStrobe
  /-- MARK_PRESS (R125). -/
  | markPress
  /-- REQUEST_FRAME (R155, R165): the next upstream symbols, with which a frame begins, goes on or ends. -/
  | requestFrame (symbols : List Symbol)
  /-- UNKNOWN_KIND (R167). -/
  | unknownKind
  /-- IDENTIFY (R169). -/
  | identify
  /-- READ_STATUS (R170). -/
  | readStatus
  /-- CLEAR_CAUSES (R171). -/
  | clearCauses
  /-- SET_PARAM (R148). -/
  | setParam
  /-- GET_PARAM (R149). -/
  | getParam
  /-- LOAD_ENVELOPE (R40). -/
  | loadEnvelope
  /-- COMMIT_ENVELOPE (R41). -/
  | commitEnvelope
  /-- READ_ENVELOPE (R45). -/
  | readEnvelope
  /-- LOAD_ROUTE (R108). -/
  | loadRoute
  /-- TRIM_ROUTE (R109). -/
  | trimRoute
  /-- READ_ROUTE (R110). -/
  | readRoute
  /-- START (R132). -/
  | start
  /-- PAUSE (R135). -/
  | pause
  /-- RESUME (R136). -/
  | resume
  /-- STOP (R138). -/
  | stop
  /-- CLEAR_FAULT (R143). -/
  | clearFault
  /-- FIX_CHAINAGE (R121). -/
  | fixChainage
  /-- READ_INTRUSIONS (R172). -/
  | readIntrusions
  /-- HEAD_PASS (R173). -/
  | headPass
  /-- HEAD_PASS_DONE (R173). -/
  | headPassDone
  /-- RESET (R175). -/
  | reset
  /-- RESET_TAKES_EFFECT (R146). -/
  | resetTakesEffect
  /-- POWER_ON_RESET (R145). -/
  | powerOnReset
  /-- ARBITER_CHOOSE (R157). -/
  | arbiterChoose
  /-- FRAME_TRANSMITTED (R156). -/
  | frameTransmitted
  /-- RECORDER_LINK_UP (R155): three consecutive K28.5 symbols from the recorder. -/
  | recorderLinkUp
  /-- RECORDER_LINK_DOWN (R155): the upstream symbols that end symbol lock. -/
  | recorderLinkDown (symbols : List Symbol)
  /-- HEAD_SYMBOL_LOCK (R1): three consecutive K28.5 symbols from the head. -/
  | headSymbolLock
  /-- HEAD_SYMBOL_LOCK_LOST (R1): the head link symbols that end symbol lock. -/
  | headSymbolLockLost (symbols : List Symbol)
  /-- INPUT_LEVEL_CHANGE (R87, R117): the input and its new raw level. -/
  | inputLevelChange (pin : InputPin) (level : Level)
  /-- FILTERED_FALLING_EDGE (R117). -/
  | filteredFallingEdge (input : EdgeInput)
deriving DecidableEq, Repr

end Sys2Proof
end

