-- ==== Sys2Proof/Decode.lean ====
section
/-! DEFINITION. Reading frames from bytes, total on any bytes (R1, R165, R182, §12.2, §12.3), the encoders that write
them, and the host's `decodeTableWord`. The table's rows carry no bits, so no word spells a command. -/

namespace Sys2Proof

/-- One bit of the CRC-16 of R182: generator 1021h, most significant bit first. -/
def crcBit (r : BitVec 16) (b : Bool) : BitVec 16 :=
  if r.msb != b then (r <<< 1) ^^^ 0x1021#16 else r <<< 1

/-- One byte of the CRC-16, most significant bit first (R182). -/
def crcByte (r : BitVec 16) (b : Byte) : BitVec 16 :=
  [7, 6, 5, 4, 3, 2, 1, 0].foldl (fun r k => crcBit r (b.getLsbD k)) r

/-- The CRC-16 of both links: initial value FFFFh, no final inversion (R182). -/
def crc16 (bytes : List Byte) : BitVec 16 := bytes.foldl crcByte 0xFFFF#16

/-- The `n` bytes of a number, least significant first (§0.5). -/
def leBytes : Nat → Nat → List Byte
  | 0, _ => []
  | n + 1, v => BitVec.ofNat 8 v :: leBytes n (v / 256)

/-- The `n` bytes of a signed number in two's complement (§12). -/
def leSigned (n : Nat) (v : Int) : List Byte := leBytes n (v % 256 ^ n).toNat

/-- The number that bytes spell, least significant first (§0.5). -/
def readLe : List Byte → Nat
  | [] => 0
  | b :: bs => b.toNat + 256 * readLe bs

/-- The signed number that bytes spell in two's complement (§12). -/
def readSigned (bs : List Byte) : Int :=
  if 2 * readLe bs < 256 ^ bs.length then readLe bs else (readLe bs : Int) - 256 ^ bs.length

/-- The two CRC bytes of a frame body, least significant first (R182). -/
def crcBytes (body : List Byte) : List Byte := leBytes 2 (crc16 body).toNat

/-- One sample of a SAMPLE_RUN (§12.2). -/
structure Sample where
  range : BitVec 16
  intensity : Byte
  nr : Bool
  sat : Bool
  mult : Bool
deriving DecidableEq, Repr

/-- A good head link frame, by kind (§1.1, §12.2). -/
inductive HeadFrame where
  | sampleRun (a0 : BitVec 14) (step : Byte) (samples : List Sample)
  | ringStart (counter : BitVec 16)
  | headStatus (bytes : List Byte)
deriving DecidableEq, Repr

/-- The samples of a SAMPLE_RUN, four bytes each; flag bits other than NR, SAT and MULT are ignored (R5, R183). -/
def readSamples : List Byte → List Sample
  | lo :: hi :: i :: fl :: rest =>
    { range := BitVec.ofNat 16 (readLe [lo, hi]), intensity := i,
      nr := fl.getLsbD 0, sat := fl.getLsbD 1, mult := fl.getLsbD 2 } :: readSamples rest
  | _ => []

/-- The payload size by kind and length: four bytes of header and four per sample for a SAMPLE_RUN, whatever the
length; the length itself for any other kind byte (R1). -/
def headPayloadSize (kind len : Byte) : Nat :=
  if kind = 1 then 4 + 4 * len.toNat else len.toNat

/-- The payload's own checks: kind, legal length, count equal to length, step in 1..16 (R1). The top two bits of a0
are ignored (R183). -/
def readHeadPayload (kind len : Byte) (payload : List Byte) : Option HeadFrame :=
  if kind = 1 then
    match payload with
    | a0l :: a0h :: step :: count :: samples =>
      if 1 ≤ len.toNat ∧ len.toNat ≤ 64 ∧ count = len ∧ 1 ≤ step.toNat ∧ step.toNat ≤ 16 then
        some (.sampleRun (BitVec.ofNat 14 (readLe [a0l, a0h])) step (readSamples samples))
      else none
    | _ => none
  else if kind = 2 then
    if len = 2 then some (.ringStart (BitVec.ofNat 16 (readLe payload))) else none
  else if kind = 3 then
    if 1 ≤ len.toNat ∧ len.toNat ≤ 16 then some (.headStatus payload) else none
  else none

/-- Whether a head frame has all its bytes, kind to CRC, by its kind and length (R1). -/
def headFrameWhole : List Byte → Bool
  | kind :: _ :: len :: rest => headPayloadSize kind len + 2 ≤ rest.length
  | _ => false

/-- The frame check of R1 over the bytes from kind to CRC: the frame has exactly its bytes, the CRC matches, and the
payload passes its own checks. The result is the frame's sequence and content. -/
def parseHeadFrame (frame : List Byte) : Option (Byte × HeadFrame) :=
  match frame with
  | kind :: seq :: len :: rest =>
    let size := headPayloadSize kind len
    let payload := rest.take size
    if rest.length = size + 2 ∧ rest.drop size = crcBytes (kind :: seq :: len :: payload) then
      (readHeadPayload kind len payload).map fun f => (seq, f)
    else none
  | _ => none

/-- The four bytes of a sample (§12.2). -/
def Sample.bytes (x : Sample) : List Byte :=
  leBytes 2 x.range.toNat ++
    [x.intensity, BitVec.ofNat 8 (x.nr.toNat + 2 * x.sat.toNat + 4 * x.mult.toNat)]

/-- Kind, length byte and payload of a head frame (§12.2). -/
def HeadFrame.layout : HeadFrame → Byte × Byte × List Byte
  | .sampleRun a0 step samples =>
    (1, BitVec.ofNat 8 samples.length,
      leBytes 2 a0.toNat ++ [step, BitVec.ofNat 8 samples.length] ++ samples.flatMap Sample.bytes)
  | .ringStart counter => (2, 2, leBytes 2 counter.toNat)
  | .headStatus bytes => (3, BitVec.ofNat 8 bytes.length, bytes)

/-- The bytes of a head frame, kind to CRC (§12.2, R182). -/
def encodeHeadFrame (seq : Byte) (f : HeadFrame) : List Byte :=
  let body := f.layout.1 :: seq :: f.layout.2.1 :: f.layout.2.2
  body ++ crcBytes body

/-- The symbols of a frame of these bytes: the start delimiter, then the bytes (§12.2, §12.3). -/
def framed (bytes : List Byte) : List Symbol := .delimiter :: bytes.map .data

/-- The legal contents of a head frame (§1.1). -/
def HeadFrame.legal : HeadFrame → Bool
  | .sampleRun _ step samples =>
    1 ≤ samples.length && samples.length ≤ 64 && 1 ≤ step.toNat && step.toNat ≤ 16
  | .ringStart _ => true
  | .headStatus bytes => 1 ≤ bytes.length && bytes.length ≤ 16

/-- A good upstream frame (R165): kind, tag and payload, judged only when performed. -/
structure Request where
  kind : Byte
  tag : Byte
  payload : List Byte
deriving DecidableEq, Repr

/-- The data bytes of a frame, or none if a symbol inside it is no data byte (R165). DESIGN CHOICE, unsafe (log entry 34):
every invalid symbol of section 1.1, another control symbol and a disparity break among them, makes the frame bad. -/
def dataBytes : List Symbol → Option (List Byte)
  | [] => some []
  | .data b :: rest => (dataBytes rest).map (b :: ·)
  | _ :: _ => none

/-- The frame check of R165 over the symbols from kind to CRC: every symbol valid (log entry 34), the byte count agreeing
with the length field, the CRC matching. -/
def parseRequest (symbols : List Symbol) : Option Request :=
  match dataBytes symbols with
  | some (kind :: tag :: l0 :: l1 :: rest) =>
    let size := readLe [l0, l1]
    let payload := rest.take size
    if rest.length = size + 2 ∧ rest.drop size = crcBytes (kind :: tag :: l0 :: l1 :: payload) then
      some { kind := kind, tag := tag, payload := payload }
    else none
  | _ => none

/-- A recorder link frame, kind to CRC: kind, tag, length, payload, CRC-16 (§12.3, R182). -/
def linkFrame (kind tag : Byte) (payload : List Byte) : List Byte :=
  let body := kind :: tag :: (leBytes 2 payload.length ++ payload)
  body ++ crcBytes body

/-- The symbols of a request frame (§12.3). -/
def encodeRequest (r : Request) : List Symbol := (linkFrame r.kind r.tag r.payload).map .data

/-- The command a word spells by the table's bits: the table gives no row any bits, so none. -/
def decodeTableWord (_nbits _w : Nat) : Option Instr := none

end Sys2Proof
end

