-- ==== Sys2Proof/Machine/Arith.lean ====
section
/-! DEFINITION. The arithmetic conventions of §0.5: clamping, saturating counts, rounding to nearest. Division and
remainder by a positive number are Lean's `/` and `%` on `Int`, which round toward minus infinity there. -/

namespace Sys2Proof.Machine

/-- To clamp a value to lo..hi (§0.5). -/
def clamp (lo hi x : Int) : Int := if x < lo then lo else if hi < x then hi else x

/-- One more, stopping at the top (§0.5, saturating counts). -/
def satInc (top n : Nat) : Nat := if n < top then n + 1 else n

/-- A sum that stops at the top (§0.5). -/
def satAdd (top n k : Nat) : Nat := max n (min top (n + k))

/-- `p / d` rounded to nearest, halves away from zero (§0.5). -/
def roundDiv (p : Int) (d : Nat) : Int :=
  if 0 ≤ p then (2 * p + d) / (2 * d) else -((2 * -p + d) / (2 * d))

/-- The distance between two integers, formed without overflow. -/
def distance (a b : Int) : Nat := (a - b).natAbs

end Sys2Proof.Machine
end

