-- ==== Sys2Proof/Machine/ParamTable.lean ====
section
/-! DEFINITION. The 46 parameters: ids, classes, ranges, defaults and adjustments (§8.6, R152). -/

namespace Sys2Proof.Machine

/-- A parameter; the id of §8.6 is its value plus one (R147: ids 1 to 46). -/
abbrev ParamId := Fin 46

/-- The id of §8.6. -/
def idNumber (p : ParamId) : Nat := p.val + 1

/-- The parameter an id byte names, if any (R148: 0 and 47 and above name none). -/
def paramOfId (n : Nat) : Option ParamId :=
  if h : 1 ≤ n ∧ n ≤ 46 then some ⟨n - 1, by omega⟩ else none

/-- The classes of §8.3. -/
inductive ParamClass where
  | restart
  | run
  | live
deriving DecidableEq, Repr

/-- The adjustments of R152 but for the pair default, which `adjusted` adds. -/
inductive Adjustment where
  | clampTo (lo hi : Int)
  | reduceMod (m : Int)
  | codes (n : Int)
  | mask
deriving DecidableEq, Repr

/-- A row of the parameter table (§8.6). -/
structure ParamRow where
  cls : ParamClass
  default : Int
  adj : Adjustment
deriving DecidableEq, Repr

namespace Param
def angleOffset : ParamId := 0
def zeroOffset : ParamId := 1
/-- walk[k], id 3 + k. -/
def walk (k : Fin 16) : ParamId := ⟨k.val + 2, by omega⟩
def minRange : ParamId := 18
def maxRange : ParamId := 19
def latOffset : ParamId := 20
def heightOffset : ParamId := 21
def multiPolicy : ParamId := 22
def revPeriod : ParamId := 23
def revTolerance : ParamId := 24
def hitThreshold : ParamId := 25
def minValid : ParamId := 26
def mOn : ParamId := 27
def mOff : ParamId := 28
def tablePolicy : ParamId := 29
def wheelMode : ParamId := 30
def wheelConstant : ParamId := 31
def slipTolerance : ParamId := 32
def forwardSign : ParamId := 33
def wheelFilter : ParamId := 34
def inputConstant : ParamId := 35
def matchWindow : ParamId := 36
def hysteresis : ParamId := 37
def maxGap : ParamId := 38
def warnMargin : ParamId := 39
def decimation : ParamId := 40
def pointStride : ParamId := 41
def maxSpacing : ParamId := 42
def reportEnable : ParamId := 43
def headNotes : ParamId := 44
def maxPayload : ParamId := 45
end Param

/-- The parameter table by id (§8.6); ids 3 to 18 are the walk values. -/
def rowOfId (n : Nat) : ParamRow :=
  match n with
  | 1 => ⟨.run, 0, .reduceMod 16384⟩
  | 2 => ⟨.run, 0, .clampTo (-2048) 2047⟩
  | 19 => ⟨.run, 400, .clampTo 0 65534⟩
  | 20 => ⟨.run, 48000, .clampTo 1 65534⟩
  | 21 => ⟨.run, 0, .clampTo (-32768) 32767⟩
  | 22 => ⟨.run, 4800, .clampTo 0 32767⟩
  | 23 => ⟨.run, 0, .codes 2⟩
  | 24 => ⟨.run, 10000, .clampTo 2000 50000⟩
  | 25 => ⟨.run, 1, .codes 4⟩
  | 26 => ⟨.run, 2, .clampTo 1 32⟩
  | 27 => ⟨.run, 4, .clampTo 1 32⟩
  | 28 => ⟨.run, 3, .clampTo 1 8⟩
  | 29 => ⟨.run, 3, .clampTo 1 8⟩
  | 30 => ⟨.run, 0, .codes 2⟩
  | 31 => ⟨.run, 0, .codes 3⟩
  | 32 => ⟨.run, 6032, .clampTo 1 16777215⟩
  | 33 => ⟨.run, 8, .clampTo 0 255⟩
  | 34 => ⟨.run, 0, .codes 2⟩
  | 35 => ⟨.run, 3, .clampTo 0 15⟩
  | 36 => ⟨.run, 3, .codes 8⟩
  | 37 => ⟨.run, 2000, .clampTo 0 65535⟩
  | 38 => ⟨.run, 500, .clampTo 0 4095⟩
  | 39 => ⟨.run, 1000, .clampTo 0 65535⟩
  | 40 => ⟨.live, 200, .clampTo 0 4095⟩
  | 41 => ⟨.live, 1, .clampTo 1 64⟩
  | 42 => ⟨.live, 0, .codes 4⟩
  | 43 => ⟨.live, 0, .clampTo 0 65535⟩
  | 44 => ⟨.live, 14, .mask⟩
  | 45 => ⟨.live, 1, .codes 2⟩
  | 46 => ⟨.restart, 3, .clampTo 0 3⟩
  | _ => ⟨.run, 0, .clampTo (-512) 511⟩

/-- The table's row of a parameter. -/
def paramRow (p : ParamId) : ParamRow := rowOfId (idNumber p)

/-- Every parameter's default (§8.6). -/
def defaultParams : Vector Int 46 := Vector.ofFn fun p => (paramRow p).default

/-- One value adjusted by its own row, and whether that changed it (R152). The mask of report_enable is no
adjustment. -/
def adjustOwn (r : ParamRow) (v : Int) : Int × Bool :=
  match r.adj with
  | .clampTo lo hi => (clamp lo hi v, decide (clamp lo hi v ≠ v))
  | .reduceMod m => (v % m, decide (v % m ≠ v))
  | .codes n => if 0 ≤ v ∧ v < n then (v, false) else (r.default, true)
  | .mask => (v % 16, false)

/-- Whether min_range and max_range, each clamped, take the pair default (R152). -/
def pairDefaulted (image : Vector Int 46) : Bool :=
  (adjustOwn (paramRow Param.maxRange) image[Param.maxRange]).1
    ≤ (adjustOwn (paramRow Param.minRange) image[Param.minRange]).1

/-- The value a taking gives a parameter, and whether it counts as adjusted (R152). -/
def adjusted (image : Vector Int 46) (p : ParamId) : Int × Bool :=
  if (p = Param.minRange ∨ p = Param.maxRange) ∧ pairDefaulted image then ((paramRow p).default, true)
  else adjustOwn (paramRow p) image[p]

/-- Whether a value in effect lies in its parameter's range or is one of its codes (R149, R152). -/
def ParamRow.admits (r : ParamRow) (v : Int) : Bool :=
  match r.adj with
  | .clampTo lo hi => decide (lo ≤ v ∧ v ≤ hi)
  | .reduceMod m => decide (0 ≤ v ∧ v < m)
  | .codes n => decide (0 ≤ v ∧ v < n)
  | .mask => decide (0 ≤ v ∧ v < 16)

end Sys2Proof.Machine
end

