-- ==== Sys2Proof/Machine/State.lean ====
section
/-! DEFINITION. The state of the TQ48, block by block as §0.2 names them, and its value after a power-on reset. -/

namespace Sys2Proof.Machine

/-! ### Named values -/

/-- The run states (§7.1). -/
inductive RunState where
  | idle
  | running
  | paused
  | fault
deriving DecidableEq, Repr

/-- The head link lock state (§1.2). -/
inductive LockState where
  | searching
  | locked
deriving DecidableEq, Repr

/-- The Odometer's direction (R94). -/
inductive Direction where
  | forward
  | reverse
deriving DecidableEq, Repr

/-- The four ways a ring can end (§0.6). -/
inductive RingStatus where
  | accepted
  | short
  | long
  | abandoned
deriving DecidableEq, Repr

/-- The pending state of an envelope slot (§3.1). -/
inductive PendingState where
  | clean
  | dirty
  | waiting
deriving DecidableEq, Repr

/-- The judgement class of a valid sample (R35). -/
inductive Judgement where
  | clear
  | warning
  | infringing
  | unguarded
deriving DecidableEq, Repr

/-- The twenty-five causes, in the order of their bits in the cause set (§11.1, §12.3). -/
inductive Cause where
  | headFrameLoss
  | odoSlip
  | odoGlitch
  | profileSkip
  | paramAdjusted
  | ringShort
  | ringLong
  | spacingWide
  | offRoute
  | unmatchedTag
  | tableFull
  | chainageLimit
  | headUnlocked
  | headStall
  | headUnstable
  | headLost
  | eventLoss
  | reqCheck
  | reqUnknown
  | reqLength
  | reqState
  | reqRange
  | reqBusy
  | reqRoute
  | reqCommit
deriving DecidableEq, Repr

/-! ### Rings and samples -/

/-- A sector of the ring of 256 (§0.4); its arithmetic wraps. -/
abbrev Sector := Fin 256

/-- An envelope slot number 0..7 (§3.1). -/
abbrev SlotId := Fin 8

/-- A least clearance and the corrected angle that goes with it, present together or absent together (§3.7). -/
structure Least where
  clearance : Int
  angle : Nat
deriving DecidableEq, Repr

/-- The held mark of a ring (§6.9). -/
structure HeldMark where
  chainage : Int
  ringSeq : Nat
  angle : Option Nat
  merged : Nat
deriving DecidableEq, Repr

/-- The ring context (§1.6), with the two flags the opening gives the profile header (R98, R102). -/
structure RingContext where
  sequence : Nat
  openTime : BitVec 32
  chainage : Int
  spacing : Option Nat
  direction : Direction
  /-- The segment index, or none for OFF_ROUTE. -/
  segment : Option Nat
  /-- The envelope slot, or none for NONE. -/
  slot : Option SlotId
  warnMargin : Nat
  decimation : Nat
  /-- The point stride itself: 1, 2, 4 or 8. -/
  stride : Nat
  profileSlot : Option (Fin 3)
  heldMark : Option HeldMark
  valid : Nat
  dropout : Nat
  outOfWindow : Nat
  framesMissing : Nat
  lastAngle : Option Nat
  spacedWide : Bool
  fixApplied : Bool
deriving DecidableEq, Repr

/-- The Ring Assembler's state (§1.5); the context is present exactly when OPEN. -/
inductive Assembler where
  | inactive
  | waiting
  | opened (ring : RingContext)
deriving DecidableEq, Repr

/-- A profile point (R160): corrected angle, judgement class, Y, Z, intensity. -/
structure Point where
  angle : Nat
  judgement : Judgement
  y : Int
  z : Int
  intensity : Byte
deriving DecidableEq, Repr

/-- The ring summary (§3.10). -/
structure Summary where
  least : Option Least
  unguarded : Nat
  unseen : Nat
  infringe : Nat
  warn : Nat
  clear : Nat
deriving DecidableEq, Repr

/-! ### Sectors and intrusions -/

/-- A sector's accumulator (§3.7). -/
structure Accumulator where
  valid : Nat
  infringing : Nat
  warning : Nat
  least : Option Least
deriving DecidableEq, Repr

/-- The streak record (§4.1). -/
structure Streak where
  startChainage : Int
  startRing : Nat
  minClearance : Int
  minAngle : Nat
  minChainage : Int
  minRing : Nat
  late : Bool
deriving DecidableEq, Repr

/-- The persistence part of a sector record (§4.1): streak count, owner and streak record stand with the states that
have them. -/
inductive Persistence where
  | clear
  | pending (k : Nat) (streak : Streak)
  | blocked (streak : Streak)
  | confirmed (owner : Nat)
  | releasing (k : Nat) (owner : Nat)
deriving DecidableEq, Repr

/-- An entry of the intrusion table (§4.8), with the two notes a pass keeps of it: struck in this ring (R74), and most
recent release on UNGUARDED (R63). -/
structure Intrusion where
  number : Nat
  first : Sector
  span : Nat
  openChainage : Int
  openRing : Nat
  peakClearance : Int
  peakAngle : Nat
  peakChainage : Int
  peakRing : Nat
  confirmedRings : Nat
  slotAtOpen : Option SlotId
  late : Bool
  owned : Nat
  struck : Bool
  unguardedNote : Bool
deriving DecidableEq, Repr

/-! ### Fixes, route, records -/

/-- The origin of a fix (§5.6): TAG with the matched entry's index and label, or MANUAL. -/
inductive FixOrigin where
  | tag (index label : Nat)
  | manual
deriving DecidableEq, Repr

/-- The pending fix (§5.6). -/
structure Fix where
  offset : Int
  origin : FixOrigin
  capture : Int
deriving DecidableEq, Repr

/-- A route table entry (§6.1). -/
inductive RouteEntry where
  | segment (start : Int) (slot : Option SlotId) (warnMargin : Option Nat)
  | reference (chainage : Int) (label : Nat)
deriving DecidableEq, Repr

/-- The statuses of a FIX record, in code order (§6.8, §12.5). -/
inductive FixStatus where
  | applied
  | superseded
  | unmatched
  | repeated
  | manual
  | cancelled
deriving DecidableEq, Repr

/-- The fields of a FIX record but for the ring sequence (§6.8); what a status does not carry is none. -/
structure FixRecord where
  status : FixStatus
  isTag : Bool
  capture : Int
  reference : Option (Nat × Nat)
  offset : Option Int
  beforeAfter : Option (Int × Int)
deriving DecidableEq, Repr

/-- What a close record's flags say of the close, but for LATE, which the entry carries (R80). -/
inductive CloseCause where
  | released
  | merged
  | evicted
  | unguarded
  | gap
  | runEnd
  | fault
deriving DecidableEq, Repr

/-- The fields of a RUN_SUMMARY (R139). -/
structure RunSummary where
  byFault : Bool
  opened : Nat
  accepted : Nat
  short : Nat
  long : Nat
  madeReady : Nat
  skipped : Nat
  intrusions : Nat
  startChainage : Option Int
  endChainage : Int
deriving DecidableEq, Repr

/-- The kinds of event record with their own fields (§9.4, §12.5). -/
inductive EventBody where
  | intrusionOpen (entry : Intrusion) (ringChainage : Int)
  | intrusionClose (entry : Intrusion) (closeChainage : Int) (closeRing : Nat) (why : CloseCause)
      (survivor : Option Nat)
  | mark (held : HeldMark) (ringChainage : Int) (status : RingStatus)
  | fix (record : FixRecord)
  | notice (cause : Cause) (chainage : Int)
  | runSummary (summary : RunSummary)
  | headNote (bytes : List Byte)
deriving DecidableEq, Repr

/-- An event record: its ring sequence, as it stood when the record was queued, and its body (R158). -/
structure EventRecord where
  ringSeq : Nat
  body : EventBody
deriving DecidableEq, Repr

/-- The results of a response (R168). -/
inductive ReqResult where
  | done
  | refused
  | busy
deriving DecidableEq, Repr

/-- The reasons of a refusal, in code order from 1 (R168, §12.3). -/
inductive Reason where
  | unknownKind
  | badLength
  | wrongState
  | outOfRange
  | routeInvalid
  | headUnlocked
  | commitWaiting
deriving DecidableEq, Repr

/-- A response (R168). -/
structure Response where
  tag : Byte
  kind : Byte
  result : ReqResult
  reason : Option Reason
  payload : List Byte
deriving DecidableEq, Repr

/-- The Management Agent (R167, R173, R175): free, sending a HEAD_PASS with the reference clock cycles it has taken, or
held by a RESET whose response waits to be transmitted. -/
inductive Agent where
  | free
  | headPass (tag : Byte) (bytes : List Byte) (cycles : Nat)
  | resetWaiting
deriving DecidableEq, Repr

/-- A finished profile (R161): the ring's context at its close, the summary, the skipped count carried, the points, the
next segment index, and the value the spacing field takes when the ring has no spacing. -/
structure Profile where
  ring : RingContext
  summary : Summary
  truncated : Bool
  skipped : Nat
  points : List Point
  nextSegment : Nat
  spacingFill : BitVec 32
deriving DecidableEq, Repr

/-- A profile slot (§9.5); FILLING keeps its points, the count of valid samples delivered, and TRUNCATED. -/
inductive ProfileSlot where
  | free
  | filling (points : List Point) (delivered : Nat) (truncated : Bool)
  | ready (profile : Profile)
  | sending (profile : Profile)
deriving DecidableEq, Repr

/-- Which source the frame being sent came from (R156). -/
inductive TxSource where
  | response
  | event
  | segment (slot : Fin 3)
deriving DecidableEq, Repr

/-- The frame being sent: its source, its bytes from kind to CRC, and the symbols already sent, the start delimiter
among them (R156). -/
structure Transmission where
  source : TxSource
  frame : List Byte
  sent : Nat
deriving DecidableEq, Repr

/-- The fault record (R141). -/
structure FaultRecord where
  cause : Cause
  ringSeq : Nat
  chainage : Int
deriving DecidableEq, Repr

/-! ### The blocks -/

/-- The time base of §0.3 and the microseconds since the last odometer update (R92). -/
structure Clock where
  timeBase : BitVec 32
  sinceUpdate : Nat
deriving DecidableEq, Repr

/-- The raw levels of the six discrete inputs (§0.3). -/
structure Pins where
  whlA : Level
  whlB : Level
  whrA : Level
  whrB : Level
  tagStb : Level
  markKey : Level
deriving DecidableEq, Repr

/-- An input filter (§5.1, §6.4); the accepted level is absent until the input's first sample (R88, R117). -/
structure Filter where
  accepted : Option Level
  runCount : Nat
deriving DecidableEq, Repr

/-- The filters of the six inputs. -/
structure Filters where
  whlA : Filter
  whlB : Filter
  whrA : Filter
  whrB : Filter
  tagStb : Filter
  markKey : Filter
deriving DecidableEq, Repr

/-- Symbol lock of a receiver (§1.1): whether it is held, the consecutive K28.5 symbols received without it, and the
consecutive invalid symbols received with it. -/
structure SymbolLock where
  held : Bool
  idles : Nat
  invalids : Nat
deriving DecidableEq, Repr

/-- Head Link Receiver (§1.1, §1.2). -/
structure HeadLink where
  sync : SymbolLock
  /-- The bytes since the start delimiter of a frame that has not all its bytes (R1, R19). -/
  partFrame : Option (List Byte)
  lock : LockState
  goodRun : Nat
  badRun : Nat
  lastSeq : Option Byte
deriving DecidableEq, Repr

/-- Ring Assembler (§1.5). -/
structure RingAssembler where
  asm : Assembler
  ringSeq : Nat
  discards : Nat
  tMin : Nat
  tMax : Nat
  /-- The stall timer's expiry when it is running (R14). -/
  stall : Option (BitVec 32)
  accepted : Nat
  short : Nat
  long : Nat
deriving DecidableEq, Repr

/-- The parameter image, every consumer's copy in effect, the adjusted list and the LIVE write waiting mark (§8.1). -/
structure ParamStore where
  image : Vector Int 46
  effect : Vector Int 46
  adjustedIds : List Nat
  further : Nat
  liveWaiting : Bool
deriving DecidableEq, Repr

/-- An envelope slot (§3.1). -/
structure EnvelopeSlot where
  live : Vector (BitVec 16) 256
  prepared : Vector (BitVec 16) 256
  state : PendingState
deriving DecidableEq, Repr

/-- Sector Tracker and Intrusion Table (Chapters 3 and 4). -/
structure SectorTracker where
  accumulators : Vector Accumulator 256
  sectors : Vector Persistence 256
  /-- The open intrusions in ascending number (§4.8). -/
  table : List Intrusion
  /-- The intrusion counter; 2^32 stands for the exhausted counter (R68). -/
  counter : Nat
  /-- The ALERT output (R85). -/
  alert : Bool
deriving DecidableEq, Repr

/-- Odometer (Chapter 5). The decoder states are the filters' accepted levels (§5.2). -/
structure Odometer where
  left : Int
  right : Int
  accumulator : Int
  direction : Direction
  pendingFix : Option Fix
  spacingRef : Option Int
deriving DecidableEq, Repr

/-- Route Unit (Chapter 6). -/
structure RouteUnit where
  entries : List RouteEntry
  /-- The current segment, or none for OFF_ROUTE (§6.3). -/
  current : Option Nat
  lastApplied : Option Nat
deriving DecidableEq, Repr

/-- Run Controller (§7.1). -/
structure RunController where
  run : RunState
  faultRecord : Option FaultRecord
  startChainage : Option Int
  chainageAtPause : Option Int
deriving DecidableEq, Repr

/-- Recorder Link Port (Chapters 9 and 10). -/
structure RecorderLink where
  /-- Symbol lock of the upstream receiver, which is the link state (R155). -/
  sync : SymbolLock
  /-- The symbols since the start delimiter of an upstream frame that has not ended (R165, R175). -/
  partFrame : Option (List Symbol)
  tx : Option Transmission
  requests : List Request
  agent : Agent
  responses : List Response
  events : List EventRecord
  slots : Vector ProfileSlot 3
  /-- The READY and SENDING slots in the order they were made ready (R157). -/
  readyOrder : List (Fin 3)
  /-- The skipped counter carried by the next profile (R161). -/
  skipped : Nat
  /-- Run counter of profiles made ready (§9.5). -/
  madeReady : Nat
  /-- Run counter of profiles skipped (§9.5). -/
  runSkipped : Nat
deriving DecidableEq, Repr

/-- The whole state of the block, and the commands waiting for it. -/
structure State where
  clock : Clock
  pins : Pins
  filters : Filters
  head : HeadLink
  ring : RingAssembler
  params : ParamStore
  envelopes : Vector EnvelopeSlot 8
  tracker : SectorTracker
  odo : Odometer
  route : RouteUnit
  ctrl : RunController
  link : RecorderLink
  /-- The cause set, one bit for each cause (R177, §12.3). -/
  causes : BitVec 25
  /-- The model's own: how many free values have been drawn (log entry 12). -/
  freeIndex : Nat
  /-- The model's own: the commands waiting, first in, first out. -/
  pending : List Instr
deriving DecidableEq, Repr

/-! ### Outcomes -/

/-- The reasons a step can stop the block with a fault: none. The manual gives every command an effect in every state
(NOTES.md, Stops). -/
inductive Fault where
deriving DecidableEq, Repr

/-- The reasons a command can be refused. -/
inductive Refusal where
  /-- Raised by `exec` for a row that has no meaning yet; no arm raises it. Safe: the machine stops. -/
  | notModelled (mnemonic : String)
deriving DecidableEq, Repr

/-- What a step answers. -/
abbrev Result := Host.Outcome State Fault Refusal

/-! ### Power-on values -/

/-- A sector with nothing in progress and an empty accumulator (R56, R86). -/
def Accumulator.empty : Accumulator := { valid := 0, infringing := 0, warning := 0, least := none }

/-- A filter before its input's first sample (R88, R117). -/
def Filter.fresh : Filter := { accepted := none, runCount := 0 }

/-- All six filters before their first samples (R88, R117). -/
def Filters.fresh : Filters :=
  { whlA := .fresh, whlB := .fresh, whrA := .fresh, whrB := .fresh, tagStb := .fresh, markKey := .fresh }

/-- An empty envelope slot (R46). -/
def EnvelopeSlot.empty : EnvelopeSlot :=
  { live := Vector.replicate 256 0, prepared := Vector.replicate 256 0, state := .clean }

/-- The Sector Tracker's reset values (R56, R86). -/
def SectorTracker.fresh : SectorTracker :=
  { accumulators := Vector.replicate 256 .empty, sectors := Vector.replicate 256 .clear, table := [], counter := 1,
    alert := false }

/-- The Odometer's reset values (R104). -/
def Odometer.fresh : Odometer :=
  { left := 0, right := 0, accumulator := 0, direction := .forward, pendingFix := none, spacingRef := none }

/-- The Run Controller's reset values (R145, R146). -/
def RunController.fresh : RunController :=
  { run := .idle, faultRecord := none, startChainage := none, chainageAtPause := none }

/-- A receiver that has received nothing. -/
def SymbolLock.none : SymbolLock := { held := false, idles := 0, invalids := 0 }

/-- Whether the Head Link Receiver holds symbol lock (R1). -/
def HeadLink.symbolLock (h : HeadLink) : Bool := h.sync.held

/-- The link state: UP while the upstream receiver holds symbol lock (R155). -/
def RecorderLink.up (l : RecorderLink) : Bool := l.sync.held

/-- The Recorder Link Port's reset values but for the upstream receiver's symbol lock (R164, R175, R176). -/
def RecorderLink.fresh (sync : SymbolLock) : RecorderLink :=
  { sync := sync, partFrame := none, tx := none, requests := [], agent := .free, responses := [], events := [],
    slots := Vector.replicate 3 .free, readyOrder := [], skipped := 0, madeReady := 0, runSkipped := 0 }

/-- The block right after a power-on reset: R18, R22, R46, R56, R86, R104, R128, R145, R154, R164, R176, R181. The raw
input levels, the head link's symbol lock and what the receivers hold of symbols and frames are the log's (entries 1, 2 and
32). -/
def State.reset : State where
  clock := { timeBase := 0, sinceUpdate := 0 }
  pins := { whlA := .low, whlB := .low, whrA := .low, whrB := .low, tagStb := .low, markKey := .low }
  filters := .fresh
  head := { sync := .none, partFrame := none, lock := .searching, goodRun := 0, badRun := 0, lastSeq := none }
  ring := { asm := .inactive, ringSeq := 0, discards := 0, tMin := 8750, tMax := 11250, stall := none, accepted := 0,
            short := 0, long := 0 }
  params := { image := defaultParams, effect := defaultParams, adjustedIds := [], further := 0, liveWaiting := false }
  envelopes := Vector.replicate 8 .empty
  tracker := .fresh
  odo := .fresh
  route := { entries := [], current := none, lastApplied := none }
  ctrl := .fresh
  link := .fresh .none
  causes := 0
  freeIndex := 0
  pending := []

/-! ### Updates of one block -/

def State.withClock (s : State) (x : Clock) : State := { s with clock := x }
def State.withPins (s : State) (x : Pins) : State := { s with pins := x }
def State.withFilters (s : State) (x : Filters) : State := { s with filters := x }
def State.withHead (s : State) (x : HeadLink) : State := { s with head := x }
def State.withRing (s : State) (x : RingAssembler) : State := { s with ring := x }
def State.withParams (s : State) (x : ParamStore) : State := { s with params := x }
def State.withEnvelopes (s : State) (x : Vector EnvelopeSlot 8) : State := { s with envelopes := x }
def State.withTracker (s : State) (x : SectorTracker) : State := { s with tracker := x }
def State.withOdo (s : State) (x : Odometer) : State := { s with odo := x }
def State.withRoute (s : State) (x : RouteUnit) : State := { s with route := x }
def State.withCtrl (s : State) (x : RunController) : State := { s with ctrl := x }
def State.withLink (s : State) (x : RecorderLink) : State := { s with link := x }
def State.withCauses (s : State) (x : BitVec 25) : State := { s with causes := x }
def State.withFreeIndex (s : State) (x : Nat) : State := { s with freeIndex := x }
def State.withPending (s : State) (x : List Instr) : State := { s with pending := x }

end Sys2Proof.Machine
end

