-- ==== Sys2Proof/Machine/Flags.lean ====
section
/-! DEFINITION. The condition set: bit numbers, classes, and the setting, testing and clearing of flags (Chapter 11,
§12.3). -/

namespace Sys2Proof.Machine

/-- The cause classes (§11.1). -/
inductive CauseClass where
  | correctable
  | nonfatal
  | fatal
  | refused
deriving DecidableEq, Repr

/-- A class's code, which is also its bit of report_enable (§12.3, R152). -/
def CauseClass.code : CauseClass → Nat
  | .correctable => 0
  | .nonfatal => 1
  | .fatal => 2
  | .refused => 3

/-- A cause's bit number in the cause set (§12.3). -/
def Cause.bit : Cause → Nat
  | .headFrameLoss => 0
  | .odoSlip => 1
  | .odoGlitch => 2
  | .profileSkip => 3
  | .paramAdjusted => 4
  | .ringShort => 5
  | .ringLong => 6
  | .spacingWide => 7
  | .offRoute => 8
  | .unmatchedTag => 9
  | .tableFull => 10
  | .chainageLimit => 11
  | .headUnlocked => 12
  | .headStall => 13
  | .headUnstable => 14
  | .headLost => 15
  | .eventLoss => 16
  | .reqCheck => 17
  | .reqUnknown => 18
  | .reqLength => 19
  | .reqState => 20
  | .reqRange => 21
  | .reqBusy => 22
  | .reqRoute => 23
  | .reqCommit => 24

/-- A cause's class (§11.1). -/
def Cause.cls : Cause → CauseClass
  | .headFrameLoss | .odoSlip | .odoGlitch | .profileSkip => .correctable
  | .paramAdjusted | .ringShort | .ringLong | .spacingWide | .offRoute | .unmatchedTag | .tableFull
  | .chainageLimit | .headUnlocked => .nonfatal
  | .headStall | .headUnstable | .headLost | .eventLoss => .fatal
  | .reqCheck | .reqUnknown | .reqLength | .reqState | .reqRange | .reqBusy | .reqRoute | .reqCommit => .refused

/-- Whether a cause's flag is set (R177). -/
def flagSet (causes : BitVec 25) (c : Cause) : Bool := causes.getLsbD c.bit

/-- The set with a cause's flag set (R177). -/
def setFlag (causes : BitVec 25) (c : Cause) : BitVec 25 := causes ||| (1#25 <<< c.bit)

/-- The set with the flags of `named` cleared; bits that name no cause are ignored (R171). -/
def clearFlags (causes : BitVec 25) (named : Nat) : BitVec 25 := causes &&& ~~~(BitVec.ofNat 25 named)

/-- Whether a class is in a report_enable value (R152, R178). -/
def classEnabled (enable : Int) (k : CauseClass) : Bool := enable.toNat.testBit k.code

end Sys2Proof.Machine
end

