-- ==== Sys2Proof/Machine/Ops.lean ====
section
/-! DEFINITION. The shared operations every block uses: reading a parameter in effect and the chainage, queueing an
event record, raising a cause (R95, R158, R177 to R179). A fatal cause raised inside a step is carried in `Work.fatal`
until the part of the step that raised it is whole; `settle` of RunControl.lean then takes it. -/

namespace Sys2Proof.Machine

/-- A step under way: the state so far, and the first fatal cause raised in RUNNING or PAUSED and not yet taken. -/
structure Work where
  st : State
  fatal : Option Cause
deriving DecidableEq, Repr

/-- Symbol lock after one more symbol: gained at the third consecutive K28.5, lost at the fourth consecutive invalid
symbol (§1.1). -/
def SymbolLock.next (l : SymbolLock) (x : Symbol) : SymbolLock :=
  if l.held then
    if x = .invalid then
      if l.invalids + 1 < Config.symbolLossRun then { l with invalids := l.invalids + 1 } else .none
    else { l with invalids := 0 }
  else if x = .idle then
    if l.idles + 1 < Config.symbolLockRun then { l with idles := l.idles + 1 }
    else { held := true, idles := 0, invalids := 0 }
  else { l with idles := 0 }

/-- A step about to begin. -/
def Work.of (s : State) : Work := { st := s, fatal := none }

/-- A change of state that raises nothing and queues nothing. -/
def Work.modify (w : Work) (f : State → State) : Work := { w with st := f w.st }

/-- A parameter's value in effect, as its consumer holds it (§8.1). -/
def State.eff (s : State) (p : ParamId) : Int := s.params.effect[p]

/-- A parameter's value in effect, of one whose range holds no negative value. -/
def State.effNat (s : State) (p : ParamId) : Nat := (s.eff p).toNat

/-- The chainage: the accumulator divided by 131072, rounded toward minus infinity (R95). -/
def State.chainage (s : State) : Int := s.odo.accumulator / Config.unitsPerMm

/-- Whether a class is enabled for report by report_enable in effect (R178). -/
def State.reports (s : State) (k : CauseClass) : Bool := classEnabled (s.eff Param.reportEnable) k

/-- A fatal cause reaches the Run Controller: noted if the run is RUNNING or PAUSED and no earlier one waits (R140,
R142, R177). -/
def Work.markFatal (w : Work) (c : Cause) : Work :=
  if (w.st.ctrl.run = .running ∨ w.st.ctrl.run = .paused) ∧ w.fatal = none then { w with fatal := some c } else w

/-- A record that finds the queue full is lost and raises EVENT_LOSS. The NOTICE of that EVENT_LOSS would find the
queue full as well, so none is placed (R158, R179). -/
def Work.lose (w : Work) : Work :=
  (w.markFatal .eventLoss).modify fun s => s.withCauses (setFlag s.causes .eventLoss)

/-- Queueing an event record with the ring sequence as it stands (R158). -/
def Work.queue (w : Work) (b : EventBody) : Work :=
  if w.st.link.events.length < Config.maxEvents then
    w.modify fun s => s.withLink { s.link with events := s.link.events ++ [{ ringSeq := s.ring.ringSeq, body := b }] }
  else w.lose

/-- Raising a cause (R177, R178): a fatal one reaches the Run Controller; a flag found clear is set and, if the class
is enabled, gives a NOTICE with the chainage as it stands. -/
def Work.raise (w : Work) (c : Cause) : Work :=
  let w := if c.cls = .fatal then w.markFatal c else w
  if flagSet w.st.causes c then w
  else
    let w := w.modify fun s => s.withCauses (setFlag s.causes c)
    if w.st.reports c.cls then w.queue (.notice c w.st.chainage) else w

/-- Raising a cause only if a condition holds. -/
def Work.raiseIf (w : Work) (b : Bool) (c : Cause) : Work := if b then w.raise c else w

end Sys2Proof.Machine
end

