-- ==== Sys2Proof/Machine/Envelope.lean ====
section
/-! DEFINITION. The Envelope Store (§3.1 to §3.6). -/

namespace Sys2Proof.Machine

/-- Limits written into successive sectors of a copy, from `f` on, modulo 256 (R40). -/
def writeLimits (copy : Vector (BitVec 16) 256) (f : Sector) : List (BitVec 16) → Vector (BitVec 16) 256
  | [] => copy
  | x :: xs => writeLimits (copy.set f.val x) (f + 1) xs

/-- Limits read from successive sectors of a copy, from `f` on, modulo 256 (R45). -/
def readLimits (copy : Vector (BitVec 16) 256) (f : Sector) : Nat → List (BitVec 16)
  | 0 => []
  | n + 1 => copy[f] :: readLimits copy (f + 1) n

/-- The pending copy made live whole; the slot is CLEAN (R38). -/
def EnvelopeSlot.makeLive (e : EnvelopeSlot) : EnvelopeSlot := { e with live := e.prepared, state := .clean }

/-- A load into the pending copy; the slot is DIRTY (R40). -/
def EnvelopeSlot.load (e : EnvelopeSlot) (f : Sector) (limits : List (BitVec 16)) : EnvelopeSlot :=
  { e with prepared := writeLimits e.prepared f limits, state := .dirty }

/-- A commit by the pending state and the run state (R41). -/
def EnvelopeSlot.commit (e : EnvelopeSlot) (running : Bool) : EnvelopeSlot :=
  match e.state with
  | .dirty => if running then { e with state := .waiting } else e.makeLive
  | .clean => e
  | .waiting => e

/-- A slot as a ring opens or the run leaves RUNNING: made live if WAITING (R42, R43). -/
def EnvelopeSlot.settleWaiting (e : EnvelopeSlot) : EnvelopeSlot :=
  if e.state = .waiting then e.makeLive else e

/-- A slot when a RESET request takes effect: the live copy kept, the pending copy set equal to it (R46). -/
def EnvelopeSlot.dropPending (e : EnvelopeSlot) : EnvelopeSlot := { e with prepared := e.live, state := .clean }

/-- Every WAITING slot made live (R42, R43). -/
def State.commitWaiting (s : State) : State := s.withEnvelopes (s.envelopes.map EnvelopeSlot.settleWaiting)

end Sys2Proof.Machine
end

