-- ==== Sys2Proof/Machine/Odometer.lean ====
section
/-! DEFINITION. The input filters, the quadrature decoders and the Odometer (Chapter 5, §6.4). -/

namespace Sys2Proof.Machine

/-! ### Inputs and filters -/

/-- The raw level of an input. -/
def Pins.get (p : Pins) : InputPin → Level
  | .whlA => p.whlA
  | .whlB => p.whlB
  | .whrA => p.whrA
  | .whrB => p.whrB
  | .tagStb => p.tagStb
  | .markKey => p.markKey

/-- The raw levels with one input changed. -/
def Pins.put (p : Pins) (i : InputPin) (v : Level) : Pins :=
  match i with
  | .whlA => { p with whlA := v }
  | .whlB => { p with whlB := v }
  | .whrA => { p with whrA := v }
  | .whrB => { p with whrB := v }
  | .tagStb => { p with tagStb := v }
  | .markKey => { p with markKey := v }

/-- The filter of an input. -/
def Filters.get (f : Filters) : InputPin → Filter
  | .whlA => f.whlA
  | .whlB => f.whlB
  | .whrA => f.whrA
  | .whrB => f.whrB
  | .tagStb => f.tagStb
  | .markKey => f.markKey

/-- The filters with one changed. -/
def Filters.put (f : Filters) (i : InputPin) (v : Filter) : Filters :=
  match i with
  | .whlA => { f with whlA := v }
  | .whlB => { f with whlB := v }
  | .whrA => { f with whrA := v }
  | .whrB => { f with whrB := v }
  | .tagStb => { f with tagStb := v }
  | .markKey => { f with markKey := v }

/-- The A input of a wheel. -/
def wheelPinA : Wheel → InputPin
  | .left => .whlA
  | .right => .whrA

/-- The B input of a wheel. -/
def wheelPinB : Wheel → InputPin
  | .left => .whlB
  | .right => .whrB

/-- The samples a change needs at an input: wheel_filter + 1 (R87), or 1000 times the constant input_constant selects,
1 for 0 ms (R117). -/
def State.filterTime (s : State) (i : InputPin) : Nat :=
  match i with
  | .tagStb | .markKey =>
    if s.effNat Param.inputConstant = 0 then 1 else 1000 * 2 ^ (s.effNat Param.inputConstant - 1)
  | _ => s.effNat Param.wheelFilter + 1

/-- One microsecond sample of a filter short of the taking of a change: the first sample gives the accepted level, an
equal one ends the run, a differing one lengthens it (R87, R88, R117). -/
def Filter.sample (f : Filter) (level : Level) : Filter :=
  match f.accepted with
  | none => { accepted := some level, runCount := 0 }
  | some a => if level = a then { f with runCount := 0 } else { f with runCount := f.runCount + 1 }

/-- A change taken: the accepted level is the sampled one and the run count is 0 (R87, R117). -/
def Filter.take (level : Level) : Filter := { accepted := some level, runCount := 0 }

/-- The level a filter holds for its decoder: the accepted one, or the input's level before the first sample. -/
def State.acceptedLevel (s : State) (i : InputPin) : Level := ((s.filters.get i).accepted).getD (s.pins.get i)

/-- An input at a level that its filter has now accepted. -/
def State.acceptLevel (s : State) (i : InputPin) (v : Level) : State :=
  if s.acceptedLevel i = v then s
  else (s.withPins (s.pins.put i v)).withFilters (s.filters.put i (.take v))

/-! ### Decoders -/

/-- The position in the quadrature cycle (§5.2). -/
def position (a b : Level) : Fin 4 :=
  match a, b with
  | .low, .low => 0
  | .high, .low => 1
  | .high, .high => 2
  | .low, .high => 3

/-- What a move of the decoder does (R89). -/
inductive Move where
  | none
  | forward
  | back
  | double
deriving DecidableEq, Repr

/-- The move from one position to another (R89). -/
def moveOf (before after : Fin 4) : Move :=
  if after = before then .none
  else if after = before + 1 then .forward
  else if before = after + 1 then .back
  else .double

/-- The change a move makes to an interval count (R89). -/
def Move.count : Move → Int
  | .none => 0
  | .forward => 1
  | .back => -1
  | .double => 0

/-- A wheel's interval count with a number added. -/
def Odometer.addCount (o : Odometer) (w : Wheel) (n : Int) : Odometer :=
  match w with
  | .left => { o with left := o.left + n }
  | .right => { o with right := o.right + n }

/-! ### The update -/

/-- A wheel change: the interval count by forward_sign (R90). -/
def wheelChange (forwardSign count : Int) : Int := if forwardSign = 1 then -count else count

/-- The advance and whether ODO_SLIP is raised, by the first row of R92 that applies. -/
def advance (mode k tolerance dL dR : Int) : Int × Bool :=
  if mode = 1 then (2 * dL * k, false)
  else if mode = 2 then (2 * dR * k, false)
  else if (distance dL dR : Int) ≤ tolerance then ((dL + dR) * k, false)
  else if dL.natAbs ≤ dR.natAbs then (2 * dL * k, true)
  else (2 * dR * k, true)

/-- A sum put into the accumulator: clamped to its range, raising CHAINAGE_LIMIT if it lay outside (R93, R98). -/
def Work.setAccumulator (w : Work) (sum : Int) : Work :=
  (w.modify fun s =>
    s.withOdo { s.odo with accumulator := clamp Config.accumulatorMin Config.accumulatorMax sum }).raiseIf
    (decide (sum < Config.accumulatorMin ∨ Config.accumulatorMax < sum)) .chainageLimit

/-- The direction after an update (R94). -/
def directionAfter (d : Direction) (adv : Int) : Direction :=
  if 0 < adv then .forward else if adv < 0 then .reverse else d

/-- The update of R92 to R94: both counts read and set to 0, ODO_SLIP raised, the advance added, the direction set. -/
def Work.odometerUpdate (w : Work) : Work :=
  let s := w.st
  let sign := s.eff Param.forwardSign
  let r := advance (s.eff Param.wheelMode) (s.eff Param.wheelConstant) (s.eff Param.slipTolerance)
    (wheelChange sign s.odo.left) (wheelChange sign s.odo.right)
  ((w.modify fun s => s.withOdo
      { s.odo with left := 0, right := 0, direction := directionAfter s.odo.direction r.1 }).raiseIf
    r.2 .odoSlip).setAccumulator (s.odo.accumulator + r.1)

/-- The accumulator set to a chainage, the interval counts to 0 (R96). -/
def Odometer.setTo (o : Odometer) (v : Int) : Odometer :=
  { o with accumulator := v * Config.unitsPerMm, left := 0, right := 0 }

end Sys2Proof.Machine
end

