-- ==== Sys2Proof/Machine/Layout.lean ====
section
/-! DEFINITION. The bytes the device sends: event payloads, response payloads, profile segments (§12.3 to §12.5). -/

namespace Sys2Proof.Machine

/-- A byte of a small number. -/
def byte (n : Nat) : Byte := BitVec.ofNat 8 n
def u16 (n : Nat) : List Byte := leBytes 2 n
def u32 (n : Nat) : List Byte := leBytes 4 n
def i32 (v : Int) : List Byte := leSigned 4 v
def flagByte (b : Bool) : Byte := if b then 1 else 0

/-- The absent markers of R183. -/
def optU8 (v : Option Nat) : Byte := match v with | some n => byte n | none => 0xFF
def optU16 (v : Option Nat) : List Byte := u16 (v.getD 0xFFFF)
def optI32 (v : Option Int) : List Byte := i32 (v.getD (-2147483648))
def slotByte (v : Option SlotId) : Byte := optU8 (v.map (·.val))

def Direction.code : Direction → Byte
  | .forward => 0
  | .reverse => 1

def RingStatus.code : RingStatus → Byte
  | .accepted => 0
  | .short => 1
  | .long => 2
  | .abandoned => 3

def RunState.code : RunState → Byte
  | .idle => 0
  | .running => 1
  | .paused => 2
  | .fault => 3

def LockState.code : LockState → Byte
  | .searching => 0
  | .locked => 1

def PendingState.code : PendingState → Byte
  | .clean => 0
  | .dirty => 1
  | .waiting => 2

def Judgement.code : Judgement → Nat
  | .clear => 0
  | .warning => 1
  | .infringing => 2
  | .unguarded => 3

def ParamClass.code : ParamClass → Byte
  | .restart => 0
  | .run => 1
  | .live => 2

def FixStatus.code : FixStatus → Byte
  | .applied => 0
  | .superseded => 1
  | .unmatched => 2
  | .repeated => 3
  | .manual => 4
  | .cancelled => 5

def ReqResult.code : ReqResult → Byte
  | .done => 0
  | .refused => 1
  | .busy => 2

def Reason.code : Reason → Byte
  | .unknownKind => 1
  | .badLength => 2
  | .wrongState => 3
  | .outOfRange => 4
  | .routeInvalid => 5
  | .headUnlocked => 6
  | .commitWaiting => 7

/-- The flag byte of a close record (§12.5). -/
def closeFlags (why : CloseCause) (late : Bool) : Byte :=
  (match why with
   | .released => 0
   | .merged => 1
   | .evicted => 2
   | .unguarded => 4
   | .gap => 8
   | .runEnd => 16
   | .fault => 32) ||| (if late then 64 else 0)

/-- The intrusion entry, 33 bytes (§12.5). -/
def Intrusion.bytes (x : Intrusion) : List Byte :=
  u32 x.number ++ [byte x.first.val] ++ u16 x.span ++ i32 x.openChainage ++ u32 x.openRing ++ i32 x.peakClearance ++
    u16 x.peakAngle ++ i32 x.peakChainage ++ u32 x.peakRing ++ u16 x.confirmedRings ++
    [slotByte x.slotAtOpen, flagByte x.late]

/-- A FIX record's body; what a status does not carry is sent as 0 (R183, §12.5). -/
def FixRecord.bytes (r : FixRecord) : List Byte :=
  [r.status.code, if r.isTag then 0 else 1] ++ i32 r.capture ++ u16 ((r.reference.map (·.1)).getD 0) ++
    u16 ((r.reference.map (·.2)).getD 0) ++ leSigned 8 (r.offset.getD 0) ++
    i32 ((r.beforeAfter.map (·.1)).getD 0) ++ i32 ((r.beforeAfter.map (·.2)).getD 0)

/-- A RUN_SUMMARY's body (§12.5). -/
def RunSummary.bytes (r : RunSummary) : List Byte :=
  [flagByte r.byFault] ++ u32 r.opened ++ u32 r.accepted ++ u32 r.short ++ u32 r.long ++ u32 r.madeReady ++
    u32 r.skipped ++ u32 r.intrusions ++ optI32 r.startChainage ++ i32 r.endChainage

/-- Record kind and body of an event record (§12.5). -/
def EventBody.bytes : EventBody → Byte × List Byte
  | .intrusionOpen x c => (1, x.bytes ++ i32 c)
  | .intrusionClose x c r why survivor => (2, x.bytes ++ i32 c ++ u32 r ++ [closeFlags why x.late] ++ u32 (survivor.getD 0))
  | .mark m c status =>
    (3, i32 m.chainage ++ u32 m.ringSeq ++ optU16 m.angle ++ [byte m.merged] ++ i32 c ++ [status.code])
  | .fix r => (4, r.bytes)
  | .notice c ch => (5, [byte c.cls.code, byte c.bit] ++ i32 ch)
  | .runSummary r => (6, r.bytes)
  | .headNote bs => (7, byte bs.length :: bs)

/-- An event payload: record kind, ring sequence, body (§12.5). -/
def EventRecord.payload (e : EventRecord) : List Byte := e.body.bytes.1 :: (u32 e.ringSeq ++ e.body.bytes.2)

/-- A response payload: request kind, result, reason, then the results (§12.3). -/
def Response.payloadBytes (r : Response) : List Byte :=
  [r.kind, r.result.code, match r.reason with | some x => x.code | none => 0] ++ r.payload

/-- A route entry, 8 bytes (§12.3). -/
def RouteEntry.bytes : RouteEntry → List Byte
  | .segment start slot margin => [0, slotByte slot] ++ optU16 margin ++ i32 start
  | .reference c label => [1, 0] ++ u16 label ++ i32 c

/-- A profile point, 9 bytes (§12.4). -/
def Point.bytes (p : Point) : List Byte :=
  u16 (p.angle + 16384 * p.judgement.code) ++ leSigned 3 p.y ++ leSigned 3 p.z ++ [p.intensity]

/-- The flags of a profile header (§12.4). -/
def Profile.flags (p : Profile) : Nat :=
  p.ring.spacedWide.toNat + 2 * p.truncated.toNat + 4 * p.ring.segment.isNone.toNat + 8 * p.ring.fixApplied.toNat +
    16 * p.ring.spacing.isSome.toNat

/-- The profile header and summary, 56 bytes (§12.4). -/
def Profile.header (p : Profile) : List Byte :=
  let r := p.ring
  u32 r.sequence ++ i32 r.chainage ++ u32 (r.spacing.getD p.spacingFill.toNat) ++ [r.direction.code, slotByte r.slot] ++
    optU16 r.segment ++ u16 r.warnMargin ++ [byte r.decimation, byte r.stride] ++ u16 p.flags ++ u32 r.valid ++
    u32 r.dropout ++ u32 r.outOfWindow ++ u16 r.framesMissing ++ u16 p.points.length ++ u16 p.skipped ++
    optI32 (p.summary.least.map (·.clearance)) ++ optU16 (p.summary.least.map (·.angle)) ++ u16 p.summary.unguarded ++
    u16 p.summary.unseen ++ u16 p.summary.infringe ++ u16 p.summary.warn ++ u16 p.summary.clear

/-- The payload bytes max_payload selects (R162). -/
def payloadLimit (code : Nat) : Nat := 256 * 2 ^ code

/-- Points in segment 0: what fits after the segment head and the 56 bytes of header and summary (R162). -/
def firstCapacity (limit : Nat) : Nat := (limit - 64) / 9

/-- Points in each later segment (R162). -/
def laterCapacity (limit : Nat) : Nat := (limit - 8) / 9

/-- Where segment `k` begins among the points, and how many it may hold (R162). -/
def segmentRange (limit k : Nat) : Nat × Nat :=
  if k = 0 then (0, firstCapacity limit) else (firstCapacity limit + (k - 1) * laterCapacity limit, laterCapacity limit)

/-- Whether segment `k` is the last of a profile of `n` points (R162). -/
def isLastSegment (limit n k : Nat) : Bool := n ≤ (segmentRange limit k).1 + (segmentRange limit k).2

/-- The points of segment `k` (R162). -/
def Profile.segmentPoints (p : Profile) (limit k : Nat) : List Point :=
  (p.points.drop (segmentRange limit k).1).take (segmentRange limit k).2

/-- The payload of segment `k`: the segment head, the header and summary in segment 0, the points (R162, §12.4). -/
def Profile.segmentPayload (p : Profile) (limit k : Nat) : List Byte :=
  u32 p.ring.sequence ++ u16 k ++
    [byte (p.segmentPoints limit k).length, flagByte (isLastSegment limit p.points.length k)] ++
    (if k = 0 then p.header else []) ++ (p.segmentPoints limit k).flatMap Point.bytes

end Sys2Proof.Machine
end

