-- ==== Sys2Proof/Machine/Solver.lean ====
section
/-! DEFINITION. The Point Solver: one sample through every stage of Chapter 2 (R21 to R36). -/

namespace Sys2Proof.Machine

/-! ### The sine table -/

/-- One term of the sine series after another, alternately subtracted and added: `term` is x^(2k−1)/(2k−1)! in units of
2^−64. -/
def sineSeries (x : Nat) : (fuel k term : Nat) → Int
  | 0, _, term => term
  | fuel + 1, k, term =>
    term - sineSeries x fuel (k + 1) (term * x / 2 ^ 64 * x / 2 ^ 64 / ((2 * k) * (2 * k + 1)))

/-- sin(2π × m / 16384) for a code m of the first quarter turn, in units of 2^−64; 57952155664616982739 is π in those
units. The error is far below the distance of any 32767 × sin from a half (log entry 13). -/
def sineFixed (m : Nat) : Int :=
  let x := 57952155664616982739 * m / 8192
  sineSeries x 12 1 x

/-- The first quarter of the sine table (R29). -/
def sineQuarter (m : Nat) : Int := roundDiv (32767 * sineFixed m) (2 ^ 64)

/-- The built-in sine table S(n), n = 0..16383, by the symmetries of R29: S(8192 − n) = S(n) and
S(n + 8192) = −S(n). -/
def sine (n : Nat) : Int :=
  let n := n % 16384
  if n ≤ 4096 then sineQuarter n
  else if n ≤ 8192 then sineQuarter (8192 - n)
  else if n ≤ 12288 then -sineQuarter (n - 8192)
  else -sineQuarter (16384 - n)

/-- The cosine of a corrected angle: the table a quarter turn on (R30). -/
def cosine (theta : Nat) : Int := sine ((theta + 4096) % 16384)

/-! ### The stages -/

/-- The corrected angle (R24). -/
def correctedAngle (s : State) (raw : Nat) : Nat := (raw + s.effNat Param.angleOffset) % 16384

/-- The walk band: intensity div 16, or 15 when SAT is set (R25). -/
def walkBand (x : Sample) : Fin 16 :=
  if x.sat then 15 else ⟨x.intensity.toNat / 16, by have := x.intensity.isLt; omega⟩

/-- The signed sum of R26. -/
def rangeSum (s : State) (x : Sample) : Int :=
  x.range.toNat + s.eff Param.zeroOffset + s.eff (Param.walk (walkBand x))

/-- The corrected range: the sum clamped to 0..65535 (R26). -/
def correctedRange (sum : Int) : Int := clamp 0 65535 sum

/-- The CLAMPED mark (R26). -/
def rangeClamped (sum : Int) : Bool := decide (sum < 0 ∨ 65535 < sum)

/-- The validity classes (R27). -/
inductive Validity where
  | valid
  | dropout
  | outOfWindow
deriving DecidableEq, Repr

/-- The validity class by the first row of R27 that applies. -/
def validity (s : State) (x : Sample) : Validity :=
  let sum := rangeSum s x
  let c := correctedRange sum
  if x.nr then .dropout
  else if x.mult ∧ s.eff Param.multiPolicy = 1 then .dropout
  else if rangeClamped sum then .outOfWindow
  else if c = 0 then .outOfWindow
  else if c < s.eff Param.minRange ∨ s.eff Param.maxRange < c then .outOfWindow
  else .valid

/-- A head-frame coordinate: range times table value over 32768, rounded to nearest, halves away from zero (R31). -/
def headCoordinate (c tableValue : Int) : Int := roundDiv (c * tableValue) 32768

/-- The sector of a corrected angle (R33). -/
def sectorOf (theta : Nat) : Sector := Fin.ofNat 256 (theta / 64)

/-- The limit of a sector in the live copy of a slot; 0 for NONE (R34, R52). -/
def limitOf (s : State) (slot : Option SlotId) (sector : Sector) : Nat :=
  match slot with
  | some k => s.envelopes[k].live[sector].toNat
  | none => 0

/-- Clearance and judgement class (R35). -/
def judge (limit : Nat) (warnMargin : Nat) (c : Int) : Option Int × Judgement :=
  if limit = 0 then (none, .unguarded)
  else
    let q := c - limit
    if q < 0 then (some q, .infringing)
    else if q < warnMargin then (some q, .warning)
    else (some q, .clear)

/-- A solved valid sample (R36). -/
structure Solved where
  sector : Sector
  clearance : Option Int
  point : Point
deriving DecidableEq, Repr

/-- The stages of a valid sample (R30 to R36). -/
def solve (s : State) (ring : RingContext) (theta : Nat) (x : Sample) : Solved :=
  let c := correctedRange (rangeSum s x)
  let sector := sectorOf theta
  let verdict := judge (limitOf s ring.slot sector) ring.warnMargin c
  { sector := sector, clearance := verdict.1,
    point := { angle := theta, judgement := verdict.2,
               y := headCoordinate c (sine theta) + s.eff Param.latOffset,
               z := headCoordinate c (cosine theta) + s.eff Param.heightOffset,
               intensity := x.intensity } }

end Sys2Proof.Machine
end

