-- ==== Sys2Proof/Machine/Tracker.lean ====
section
/-! DEFINITION. The Sector Tracker: accumulators, verdicts, the ring summary, persistence, the confirm attempt and the
evaluation pass (§3.7 to §3.11, Chapter 4). The pass works on the sectors, the table and the counter alone and lists
what it queues and raises in order; Ring.lean then queues and raises it. -/

namespace Sys2Proof.Machine

/-! ### Accumulators and verdicts -/

/-- Whether a clearance takes the place of the least one held (R48, R54): absent, or strictly less. -/
def improves (q : Int) (least : Option Least) : Bool :=
  match least with
  | none => true
  | some l => q < l.clearance

/-- A solved sample folded into its sector's accumulator (R48). -/
def Accumulator.add (a : Accumulator) (r : Solved) : Accumulator :=
  { valid := satInc 255 a.valid
    infringing := if r.point.judgement = .infringing then satInc 255 a.infringing else a.infringing
    warning := if r.point.judgement = .warning then satInc 255 a.warning else a.warning
    least :=
      match r.clearance with
      | some q => if improves q a.least then some { clearance := q, angle := r.point.angle } else a.least
      | none => a.least }

/-- The verdicts (§3.9). -/
inductive Verdict where
  | unguarded
  | unseen
  | infringe
  | warn
  | clear
deriving DecidableEq, Repr

/-- The verdict of a sector by the first row of R51 that applies. -/
def verdictOf (limit minValid hitThreshold : Nat) (a : Accumulator) : Verdict :=
  if limit = 0 then .unguarded
  else if a.valid < minValid then .unseen
  else if hitThreshold ≤ a.infringing then .infringe
  else if hitThreshold ≤ a.infringing + a.warning then .warn
  else .clear

/-- The verdict of a sector of the ring with envelope slot `slot` (R51, R52). -/
def State.verdict (s : State) (slot : Option SlotId) (i : Sector) : Verdict :=
  verdictOf (limitOf s slot i) (s.effNat Param.minValid) (s.effNat Param.hitThreshold) s.tracker.accumulators[i]

/-- One sector added to the ring summary (R54). -/
def Summary.add (sm : Summary) (v : Verdict) (a : Accumulator) : Summary :=
  let least :=
    match a.least with
    | some l => if improves l.clearance sm.least then some l else sm.least
    | none => sm.least
  match v with
  | .unguarded => { sm with unguarded := sm.unguarded + 1 }
  | .unseen => { sm with unseen := sm.unseen + 1 }
  | .infringe => { sm with infringe := sm.infringe + 1, least := least }
  | .warn => { sm with warn := sm.warn + 1, least := least }
  | .clear => { sm with clear := sm.clear + 1, least := least }

/-- The summary of no sectors. -/
def Summary.none : Summary := { least := Option.none, unguarded := 0, unseen := 0, infringe := 0, warn := 0, clear := 0 }

/-- The ring summary of an ACCEPTED ring, over the sectors in ascending order (R54). -/
def State.summary (s : State) (slot : Option SlotId) : Summary :=
  (List.finRange 256).foldl (fun sm i => sm.add (s.verdict slot i) s.tracker.accumulators[i]) .none

/-! ### The pass -/

/-- What a pass queues or raises. -/
inductive Emission where
  | record (b : EventBody)
  | cause (c : Cause)
deriving DecidableEq, Repr

/-- The part of the state a pass works on, and what it has emitted, oldest first. -/
structure Pass where
  sectors : Vector Persistence 256
  table : List Intrusion
  counter : Nat
  out : List Emission
deriving DecidableEq, Repr

/-- What a pass reads of the ring and of the parameters in effect (R53, R58). -/
structure PassEnv where
  chainage : Int
  sequence : Nat
  slot : Option SlotId
  mOn : Nat
  mOff : Nat
  replace : Bool
deriving DecidableEq, Repr

def Pass.emit (p : Pass) (e : Emission) : Pass := { p with out := p.out ++ [e] }
def Pass.setSector (p : Pass) (i : Sector) (x : Persistence) : Pass := { p with sectors := p.sectors.set i.val x }
/-- A change of the entry with a given number. -/
def Pass.modifyEntry (p : Pass) (number : Nat) (f : Intrusion → Intrusion) : Pass :=
  { p with table := p.table.map fun x => if x.number = number then f x else x }

/-- A strike: the first of a ring raises the confirmed-ring count (R74). -/
def Intrusion.strike (x : Intrusion) : Intrusion :=
  if x.struck then x else { x with struck := true, confirmedRings := satInc 65535 x.confirmedRings }

/-- A peak lowered to a strictly lesser clearance with its place (R73). -/
def Intrusion.lowerPeak (x : Intrusion) (clearance : Int) (angle : Nat) (chainage : Int) (ring : Nat) : Intrusion :=
  if clearance < x.peakClearance then
    { x with peakClearance := clearance, peakAngle := angle, peakChainage := chainage, peakRing := ring }
  else x

/-- The owner of a sector, if it has one (R57). -/
def Persistence.owner : Persistence → Option Nat
  | .confirmed n => some n
  | .releasing _ n => some n
  | _ => none

/-- A sector given to a new owner, its state and streak count kept (R72). -/
def Persistence.reown (old new : Nat) : Persistence → Persistence
  | .confirmed n => .confirmed (if n = old then new else n)
  | .releasing k n => .releasing k (if n = old then new else n)
  | x => x

/-- The close record of an entry (R80). -/
def closeRecord (x : Intrusion) (chainage : Int) (ring : Nat) (why : CloseCause) (survivor : Option Nat) : Emission :=
  .record (.intrusionClose x chainage ring why survivor)

/-- Whether a span contains a sector (§0.4). -/
def Intrusion.contains (x : Intrusion) (i : Sector) : Bool := (i - x.first).val < x.span

/-- Whether a span begins right after a sector (R66). -/
def Intrusion.beginsAfter (x : Intrusion) (i : Sector) : Bool := x.first = i + 1

/-- Whether a span ends right before a sector (R66). -/
def Intrusion.endsBefore (x : Intrusion) (i : Sector) : Bool := x.first + Fin.ofNat 256 x.span = i

/-- The candidates of a confirm attempt, in ascending number (R66). -/
def Pass.candidates (p : Pass) (i : Sector) : List Intrusion :=
  p.table.filter fun x => x.contains i || x.beginsAfter i || x.endsBefore i

/-- A new intrusion for a sector (R67). -/
def Pass.openNew (e : PassEnv) (i : Sector) (k : Streak) (p : Pass) : Pass :=
  let x : Intrusion :=
    { number := p.counter, first := i, span := 1, openChainage := k.startChainage, openRing := k.startRing,
      peakClearance := k.minClearance, peakAngle := k.minAngle, peakChainage := k.minChainage, peakRing := k.minRing,
      confirmedRings := 1, slotAtOpen := e.slot, late := k.late, owned := 1, struck := true, unguardedNote := false }
  ({ p with table := p.table ++ [x], counter := p.counter + 1 }.setSector i (.confirmed x.number)).emit
    (.record (.intrusionOpen x e.chainage))

/-- No room: the sector is BLOCKED and its streak gains the LATE mark (R69). -/
def Pass.block (i : Sector) (k : Streak) (p : Pass) : Pass := p.setSector i (.blocked { k with late := true })

/-- The victim under REPLACE: the greatest peak clearance, and of equal ones the highest number (R70). -/
def victimOf : List Intrusion → Option Intrusion
  | [] => none
  | x :: xs =>
    match victimOf xs with
    | none => some x
    | some v =>
      if v.peakClearance < x.peakClearance ∨ (x.peakClearance = v.peakClearance ∧ v.number < x.number) then some x
      else some v

/-- An eviction: the victim's close record, its sectors CLEAR, the victim gone from the table (R70). -/
def Pass.evict (e : PassEnv) (v : Intrusion) (p : Pass) : Pass :=
  { p with
    table := p.table.filter fun x => x.number ≠ v.number
    sectors := p.sectors.map fun x => if x.owner = some v.number then .clear else x
    out := p.out ++ [closeRecord v e.chainage e.sequence .evicted none] }

/-- An attempt with no candidate (R67 to R70). -/
def Pass.attemptAlone (e : PassEnv) (i : Sector) (k : Streak) (p : Pass) : Pass :=
  if Config.top32 < p.counter then (p.block i k).emit (.cause .tableFull)
  else if p.table.length < Config.maxIntrusions then p.openNew e i k
  else
    let p := p.emit (.cause .tableFull)
    match e.replace, victimOf p.table with
    | true, some v => if k.minClearance < v.peakClearance then (p.evict e v).openNew e i k else p.block i k
    | _, _ => p.block i k

/-- An attempt with one candidate: the sector joins it (R71). -/
def Pass.join (i : Sector) (k : Streak) (c : Intrusion) (p : Pass) : Pass :=
  (p.modifyEntry c.number fun x =>
    let x :=
      if x.contains i then x
      else if x.beginsAfter i then { x with first := i, span := x.span + 1 }
      else { x with span := x.span + 1 }
    ({ x with owned := x.owned + 1 }.lowerPeak k.minClearance k.minAngle k.minChainage k.minRing).strike).setSector i
      (.confirmed c.number)

/-- An attempt with two candidates: the lower number `a` survives, `b` is absorbed (R72). -/
def Pass.merge (e : PassEnv) (i : Sector) (k : Streak) (a b : Intrusion) (p : Pass) : Pass :=
  let survivor : Intrusion :=
    (({ a with first := if a.endsBefore i then a.first else b.first
               span := a.span + b.span + 1
               owned := a.owned + b.owned + 1 }.lowerPeak
        b.peakClearance b.peakAngle b.peakChainage b.peakRing).lowerPeak
        k.minClearance k.minAngle k.minChainage k.minRing).strike
  { p with
    table := (p.table.filter fun x => x.number ≠ b.number).map fun x => if x.number = a.number then survivor else x
    sectors := (p.sectors.map (Persistence.reown b.number a.number)).set i.val (.confirmed a.number)
    out := p.out ++ [closeRecord b e.chainage e.sequence .merged (some a.number)] }

/-- The confirm attempt (R66). -/
def Pass.attempt (e : PassEnv) (i : Sector) (k : Streak) (p : Pass) : Pass :=
  match p.candidates i with
  | [] => p.attemptAlone e i k
  | [c] => p.join i k c
  | a :: b :: _ => p.merge e i k a b

/-- A streak record started by an offer (R59). -/
def Streak.begin (e : PassEnv) (offer : Least) : Streak :=
  { startChainage := e.chainage, startRing := e.sequence, minClearance := offer.clearance, minAngle := offer.angle,
    minChainage := e.chainage, minRing := e.sequence, late := false }

/-- A streak record updated by an offer (R60). -/
def Streak.update (e : PassEnv) (offer : Least) (k : Streak) : Streak :=
  if offer.clearance < k.minClearance then
    { k with minClearance := offer.clearance, minAngle := offer.angle, minChainage := e.chainage,
             minRing := e.sequence }
  else k

/-- A streak that has reached the count `n`: a confirm attempt at m_on, else PENDING(n) (R59, R60). -/
def Pass.advance (e : PassEnv) (i : Sector) (n : Nat) (k : Streak) (p : Pass) : Pass :=
  if e.mOn ≤ n then p.attempt e i k else p.setSector i (.pending n k)

/-- An owned sector infringing again: its offer to the peak and its strike (R61, R73, R74). -/
def Pass.strikeOwner (e : PassEnv) (owner : Nat) (offer : Least) (p : Pass) : Pass :=
  p.modifyEntry owner fun x => (x.lowerPeak offer.clearance offer.angle e.chainage e.sequence).strike

/-- An INFRINGE verdict with its offer (R59 to R61). -/
def Pass.stepInfringe (e : PassEnv) (i : Sector) (offer : Least) (p : Pass) : Pass :=
  match p.sectors[i] with
  | .clear => p.advance e i 1 (Streak.begin e offer)
  | .pending n k => p.advance e i (n + 1) (k.update e offer)
  | .blocked k => p.attempt e i (k.update e offer)
  | .confirmed o => p.strikeOwner e o offer
  | .releasing _ o => (p.strikeOwner e o offer).setSector i (.confirmed o)

/-- A release: the sector CLEAR, its owner with one sector less and the note of what caused it (R63). -/
def Pass.release (i : Sector) (owner : Nat) (onUnguarded : Bool) (p : Pass) : Pass :=
  (p.modifyEntry owner fun x => { x with owned := x.owned - 1, unguardedNote := onUnguarded }).setSector i .clear

/-- One more non-infringing verdict of an owned sector (R62). -/
def Pass.quiet (e : PassEnv) (i : Sector) (n : Nat) (owner : Nat) (p : Pass) : Pass :=
  if e.mOff ≤ n then p.release i owner false else p.setSector i (.releasing n owner)

/-- A CLEAR or WARN verdict (R62). -/
def Pass.stepQuiet (e : PassEnv) (i : Sector) (p : Pass) : Pass :=
  match p.sectors[i] with
  | .clear => p
  | .pending _ _ => p.setSector i .clear
  | .blocked _ => p.setSector i .clear
  | .confirmed o => p.quiet e i 1 o
  | .releasing n o => p.quiet e i (n + 1) o

/-- An UNGUARDED verdict (R65). -/
def Pass.stepUnguarded (i : Sector) (p : Pass) : Pass :=
  match p.sectors[i] with
  | .clear => p
  | .pending _ _ => p.setSector i .clear
  | .blocked _ => p.setSector i .clear
  | .confirmed o => p.release i o true
  | .releasing _ o => p.release i o true

/-- One sector stepped on its verdict (R59 to R65). An INFRINGE verdict has an offer, since hit_threshold is at least 1
(R51); with none the sector holds. -/
def Pass.step (e : PassEnv) (v : Verdict) (offer : Option Least) (i : Sector) (p : Pass) : Pass :=
  match v, offer with
  | .infringe, some l => p.stepInfringe e i l
  | .infringe, none => p
  | .warn, _ => p.stepQuiet e i
  | .clear, _ => p.stepQuiet e i
  | .unseen, _ => p
  | .unguarded, _ => p.stepUnguarded i

/-- The closes at the end of a pass: every open intrusion that owns no sector, in ascending number (R76). -/
def Pass.finish (e : PassEnv) (p : Pass) : Pass :=
  { p with
    table := p.table.filter fun x => x.owned ≠ 0
    out := p.out ++ (p.table.filter fun x => x.owned = 0).map fun x =>
      closeRecord x e.chainage e.sequence (if x.unguardedNote then .unguarded else .released) none }

/-- The notes of the last ring taken off an entry as a pass begins (R63, R74). -/
def Intrusion.forNewRing (x : Intrusion) : Intrusion := { x with struck := false, unguardedNote := false }

/-- The pass's reading of the ring and the parameters in effect (R58). -/
def State.passEnv (s : State) (ring : RingContext) : PassEnv :=
  { chainage := ring.chainage, sequence := ring.sequence, slot := ring.slot, mOn := s.effNat Param.mOn,
    mOff := s.effNat Param.mOff, replace := s.eff Param.tablePolicy = 1 }

/-- A pass about to begin. -/
def State.passStart (s : State) : Pass :=
  { sectors := s.tracker.sectors, table := s.tracker.table.map Intrusion.forNewRing, counter := s.tracker.counter,
    out := [] }

/-- The evaluation pass of an ACCEPTED ring (R75, R76). -/
def State.evaluate (s : State) (ring : RingContext) : Pass :=
  let e := s.passEnv ring
  ((List.finRange 256).foldl
    (fun p i => p.step e (s.verdict ring.slot i) s.tracker.accumulators[i].least i) s.passStart).finish e

/-- Every accumulator emptied (R47, R56). -/
def SectorTracker.emptied (t : SectorTracker) : SectorTracker :=
  { t with accumulators := Vector.replicate 256 .empty }

/-- The table left empty and every sector CLEAR (R82 to R84). -/
def SectorTracker.cleared (t : SectorTracker) : SectorTracker :=
  { t with table := [], sectors := Vector.replicate 256 .clear }

end Sys2Proof.Machine
end

