-- ==== Sys2Proof/Machine/Output.lean ====
section
/-! DEFINITION. The output side: profile slots, the arbiter, the transmitter, responses (Chapter 9, R166, R168). -/

namespace Sys2Proof.Machine

/-- A slot of the output side replaced. -/
def RecorderLink.setSlot (l : RecorderLink) (k : Fin 3) (x : ProfileSlot) : RecorderLink :=
  { l with slots := l.slots.set k.val x }

/-- Whether a slot is FREE. -/
def ProfileSlot.isFree : ProfileSlot → Bool
  | .free => true
  | _ => false

/-- The lowest-numbered FREE slot (R159). -/
def RecorderLink.freeSlot (l : RecorderLink) : Option (Fin 3) := (List.finRange 3).find? fun k => l.slots[k].isFree

/-- Slots not FREE (R170). -/
def RecorderLink.occupied (l : RecorderLink) : Nat := ((List.finRange 3).filter fun k => !l.slots[k].isFree).length

/-- The profile claim of an opening ring: the slot claimed, if any (R159). -/
def Work.claimProfile (w : Work) (sequence decimation : Nat) : Work × Option (Fin 3) :=
  if sequence % decimation = 0 then
    match w.st.link.freeSlot with
    | some k => (w.modify fun s => s.withLink (s.link.setSlot k (.filling [] 0 false)), some k)
    | none =>
      ((w.modify fun s => s.withLink { s.link with
          skipped := satInc 65535 s.link.skipped
          runSkipped := satInc Config.top32 s.link.runSkipped }).raise .profileSkip, none)
  else (w, none)

/-- A valid sample delivered to a FILLING slot: a point, passed over by the stride, or omitted (R160). -/
def ProfileSlot.deliver (stride : Nat) (p : Point) : ProfileSlot → ProfileSlot
  | .filling points n truncated =>
    if n % stride = 0 then
      if points.length < Config.maxPoints then .filling (points ++ [p]) (n + 1) truncated
      else .filling points (n + 1) true
    else .filling points (n + 1) truncated
  | x => x

/-- The profile of an ACCEPTED ring made ready: header and summary completed, the skipped counter carried and back to
0, the run counter raised (R161). A ring with no spacing takes the free value of log entry 12 for the field. -/
def State.makeReady (s : State) (ring : RingContext) (summary : Summary) : State :=
  match ring.profileSlot with
  | some k =>
    match s.link.slots[k] with
    | .filling points _ truncated =>
      let profile : Profile :=
        { ring := ring, summary := summary, truncated := truncated, skipped := s.link.skipped, points := points,
          nextSegment := 0, spacingFill := Config.absentSpacing s.freeIndex }
      (s.withLink { s.link.setSlot k (.ready profile) with
        readyOrder := s.link.readyOrder ++ [k], skipped := 0
        madeReady := satInc Config.top32 s.link.madeReady }).withFreeIndex
        (if ring.spacing.isNone then s.freeIndex + 1 else s.freeIndex)
    | _ => s
  | none => s

/-- The slot of a ring that did not close ACCEPTED freed unsent (R161). -/
def State.dropProfile (s : State) (ring : RingContext) : State :=
  match ring.profileSlot with
  | some k => s.withLink (s.link.setSlot k .free)
  | none => s

/-- The profile in a READY or SENDING slot. -/
def ProfileSlot.profile : ProfileSlot → Option Profile
  | .ready p => some p
  | .sending p => some p
  | _ => none

/-- Whether the Agent holds a reserved response place: only HEAD_PASS does across steps (R167, R173). -/
def Agent.reserved : Agent → Nat
  | .headPass _ _ _ => 1
  | _ => 0

/-- Whether a RESET response waits for transmission (R175). -/
def Agent.resetting : Agent → Bool
  | .resetWaiting => true
  | _ => false

/-- Response places taken (R166). -/
def RecorderLink.placesTaken (l : RecorderLink) : Nat := l.responses.length + l.agent.reserved

/-- A response joining the queue at its tail (R167). -/
def Work.respond (w : Work) (r : Response) : Work :=
  w.modify fun s => s.withLink { s.link with responses := s.link.responses ++ [r] }

/-- The payload limit in effect (R162). -/
def State.payloadLimit (s : State) : Nat := Machine.payloadLimit (s.effNat Param.maxPayload)

/-- The frame the arbiter takes: the oldest response, else the oldest event record, else the next segment of the
profile made ready earliest (R157). Event and segment frames carry tag 0 (R156). -/
def State.nextFrame (s : State) : Option Transmission :=
  match s.link.responses with
  | r :: _ => some { source := .response, frame := linkFrame 0x80 r.tag r.payloadBytes, sent := 0 }
  | [] =>
    match s.link.events with
    | e :: _ => some { source := .event, frame := linkFrame 0x81 0 e.payload, sent := 0 }
    | [] =>
      match s.link.readyOrder with
      | k :: _ =>
        (s.link.slots[k].profile).map fun p =>
          { source := .segment k, frame := linkFrame 0x82 0 (p.segmentPayload s.payloadLimit p.nextSegment), sent := 0 }
      | [] => none

/-- The arbiter's choice when the link is UP and the transmitter free (R157). -/
def State.choose (s : State) : State :=
  if s.link.up ∧ s.link.tx.isNone then s.withLink { s.link with tx := s.nextFrame } else s

/-- A segment sent: its profile goes on to the next segment, or its slot becomes FREE after the last (R162, R163). -/
def State.segmentSent (s : State) (k : Fin 3) : State :=
  match s.link.slots[k].profile with
  | some p =>
    if isLastSegment s.payloadLimit p.points.length p.nextSegment then
      s.withLink { s.link.setSlot k .free with readyOrder := s.link.readyOrder.filter (· ≠ k) }
    else s.withLink (s.link.setSlot k (.sending { p with nextSegment := p.nextSegment + 1 }))
  | none => s

/-- Whether a response is that of an accepted RESET (R175). -/
def Response.isReset (r : Response) : Bool := r.kind == 0x7F && r.result == .done

/-- The frame being sent is transmitted: its item leaves its source (R156). -/
def State.transmitted (s : State) : State :=
  match s.link.tx with
  | none => s
  | some t =>
    let s := s.withLink { s.link with tx := none }
    match t.source with
    | .response =>
      s.withLink { s.link with responses := s.link.responses.tail }
    | .event => s.withLink { s.link with events := s.link.events.tail }
    | .segment k => s.segmentSent k

end Sys2Proof.Machine
end

