-- ==== Sys2Proof/Machine/Params.lean ====
section
/-! DEFINITION. Takings of parameters from the image into effect (R150 to R153). -/

namespace Sys2Proof.Machine

/-- The adjusted list with one more id: appended while fewer than 8 are listed, counted after (R153). -/
def ParamStore.listAdjusted (ps : ParamStore) (p : ParamId) : ParamStore :=
  if ps.adjustedIds.length < Config.maxAdjusted then { ps with adjustedIds := ps.adjustedIds ++ [idNumber p] }
  else { ps with further := satInc 255 ps.further }

/-- One parameter taken: its consumer's copy replaced, an adjustment listed (R150, R152, R153). -/
def ParamStore.takeOne (ps : ParamStore) (p : ParamId) : ParamStore :=
  let r := adjusted ps.image p
  let ps := { ps with effect := ps.effect.set p r.1 }
  if r.2 then ps.listAdjusted p else ps

/-- One parameter of a full taking; an adjustment raises PARAM_ADJUSTED where the taking raises causes (R153). DESIGN
CHOICE, unsafe (log entry 31): when a LIVE taking changes report_enable, which of the two values decides that taking's own
PARAM_ADJUSTED NOTICE is open between R150, R151 and R178; here each consumer's copy is replaced in its turn, so an
adjustment of ids 40 to 43 meets the old value and one of id 45 the new. -/
def Work.takeOne (raises : Bool) (w : Work) (p : ParamId) : Work :=
  let w' := w.modify fun s => s.withParams (s.params.takeOne p)
  w'.raiseIf (raises && (adjusted w.st.params.image p).2) .paramAdjusted

/-- The parameters of some classes in ascending id (R150). -/
def idsOf (inClass : ParamClass → Bool) : List ParamId :=
  (List.finRange 46).filter fun p => inClass (paramRow p).cls

/-- A full taking: the adjusted list is emptied, then each parameter is taken in ascending id (R150, R153). -/
def Work.take (w : Work) (inClass : ParamClass → Bool) (raises : Bool) : Work :=
  (idsOf inClass).foldl (Work.takeOne raises)
    (w.modify fun s => s.withParams { s.params with adjustedIds := [], further := 0 })

/-- The membership tests of the takings. -/
def ParamClass.isRun (k : ParamClass) : Bool := k = .run
def ParamClass.isLive (k : ParamClass) : Bool := k = .live
def ParamClass.any (_ : ParamClass) : Bool := true

/-- A full LIVE taking, which clears the LIVE write waiting mark (R151). -/
def Work.takeLive (w : Work) : Work :=
  (w.modify fun s => s.withParams { s.params with liveWaiting := false }).take ParamClass.isLive true

/-- The LIVE taking at a ring opening or at the leaving of RUNNING, void when no write waits (R151). -/
def Work.takeLiveIfWaiting (w : Work) : Work :=
  if w.st.params.liveWaiting then w.takeLive else w

/-- A filter's run count back to 0, its accepted level kept (R88, R112). -/
def Filter.restart (f : Filter) : Filter := { f with runCount := 0 }

/-- What a new wheel_filter or input_constant does to the filters it governs (R88, R112): a value that differs from the
one in effect before restarts their runs (log entry 9). -/
def Filters.afterTaking (f : Filters) (wheelChanged inputChanged : Bool) : Filters :=
  let f := if wheelChanged then
    { f with whlA := f.whlA.restart, whlB := f.whlB.restart, whrA := f.whrA.restart, whrB := f.whrB.restart } else f
  if inputChanged then { f with tagStb := f.tagStb.restart, markKey := f.markKey.restart } else f

/-- The RUN taking of an accepted START (R132, R150). -/
def Work.takeRun (w : Work) : Work :=
  let w' := w.take ParamClass.isRun true
  w'.modify fun s => s.withFilters (s.filters.afterTaking
    (s.eff Param.wheelFilter ≠ w.st.eff Param.wheelFilter) (s.eff Param.inputConstant ≠ w.st.eff Param.inputConstant))

/-- The one taking of all three classes at a RESET request taking effect: it lists adjustments, raises nothing, and
clears the LIVE write waiting mark (R150, R153, R154). -/
def ParamStore.takeAll (ps : ParamStore) : ParamStore :=
  (idsOf ParamClass.any).foldl ParamStore.takeOne
    { ps with adjustedIds := [], further := 0, liveWaiting := false }

end Sys2Proof.Machine
end

