-- ==== Sys2Proof/Machine/Route.lean ====
section
/-! DEFINITION. The Route Unit: the table, validation, segment selection, tag matching, fixes and marks (Chapter 6). -/

namespace Sys2Proof.Machine

/-- An entry's chainage: a SEGMENT's start or a REFERENCE's chainage (§6.1). -/
def RouteEntry.chainage : RouteEntry → Int
  | .segment start _ _ => start
  | .reference c _ => c

/-- Whether an entry is a SEGMENT. -/
def RouteEntry.isSegment : RouteEntry → Bool
  | .segment _ _ _ => true
  | .reference _ _ => false

/-! ### The table -/

/-- Entries written at successive indices from `f` on; the table grows where the load passes its end (R108). -/
def writeEntries (table : List RouteEntry) (f : Nat) (new : List RouteEntry) : List RouteEntry :=
  table.take f ++ new ++ table.drop (f + new.length)

/-- The scan of R111 from index `i` on, with the entry before and the start of the most recent SEGMENT before; it
returns the first offending index. -/
def scanRoute (before : RouteEntry) (lastStart : Option Int) (i : Nat) : List RouteEntry → Option Nat
  | [] => if lastStart.isNone then some i else none
  | e :: rest =>
    let clash : Bool :=
      match lastStart with
      | some a => e.isSegment && decide (e.chainage ≤ a)
      | none => false
    if e.chainage < before.chainage ∨ clash then some i
    else scanRoute e (if e.isSegment then some e.chainage else lastStart) (i + 1) rest

/-- The first offending entry of a table, or none for a valid one; the length when no SEGMENT is present (R111). -/
def firstOffending (table : List RouteEntry) : Option Nat :=
  match table with
  | [] => some 0
  | e :: rest => scanRoute e (if e.isSegment then some e.chainage else none) 1 rest

/-! ### Segment selection -/

/-- The SEGMENT with the greatest start not above `c`, by index, from index `i` on (§6.3). -/
def lookupFrom (c : Int) (i : Nat) (best : Option (Nat × Int)) : List RouteEntry → Option (Nat × Int)
  | [] => best
  | .segment start _ _ :: rest =>
    let better : Bool :=
      match best with
      | some b => decide (b.2 < start)
      | none => true
    lookupFrom c (i + 1) (if start ≤ c ∧ better then some (i, start) else best) rest
  | .reference _ _ :: rest => lookupFrom c (i + 1) best rest

/-- A plain lookup: the index of a SEGMENT, or none for OFF_ROUTE (§6.3). -/
def lookup (table : List RouteEntry) (c : Int) : Option Nat := (lookupFrom c 0 none table).map (·.1)

/-- The start of the first SEGMENT of a list. -/
def firstStart : List RouteEntry → Option Int
  | [] => none
  | .segment start _ _ :: _ => some start
  | .reference _ _ :: rest => firstStart rest

/-- Whether a chainage is not above an upper band end, `none` being no end (R113). -/
def belowEnd (c : Int) (h : Int) (upper : Option Int) : Bool :=
  match upper with
  | some u => c ≤ u + h
  | none => true

/-- Whether a chainage lies in the band of the current segment (R113). Both ends belong to it. -/
def inBand (table : List RouteEntry) (h : Int) (current : Option Nat) (c : Int) : Bool :=
  match current with
  | none => belowEnd c h (firstStart table)
  | some i =>
    match table[i]? with
    | some (.segment start _ _) => decide (start - h ≤ c) && belowEnd c h (firstStart (table.drop (i + 1)))
    | _ => false

/-- The selection at a ring opening: the band keeps the current segment, else a plain lookup (R115). -/
def selectSegment (table : List RouteEntry) (h : Int) (current : Option Nat) (c : Int) : Option Nat :=
  if inBand table h current c then current else lookup table c

/-- The envelope slot of a selection; NONE when OFF_ROUTE (R116). -/
def slotOf (table : List RouteEntry) (sel : Option Nat) : Option SlotId :=
  match sel.bind (table[·]?) with
  | some (.segment _ slot _) => slot
  | _ => none

/-- The warn margin of a selection: the segment's own, else warn_margin (R116). -/
def marginOf (table : List RouteEntry) (sel : Option Nat) (global : Nat) : Nat :=
  match sel.bind (table[·]?) with
  | some (.segment _ _ (some m)) => m
  | _ => global

/-! ### Tag matching and fixes -/

/-- A chosen candidate: index, chainage, label. -/
structure Match where
  index : Nat
  chainage : Int
  label : Nat
deriving DecidableEq, Repr

/-- The candidate nearest to `cc` within the window, the lower index among equal distances (R119). -/
def nearestFrom (cc : Int) (window : Nat) (i : Nat) (best : Option Match) : List RouteEntry → Option Match
  | [] => best
  | .reference r label :: rest =>
    let nearer : Bool :=
      match best with
      | some b => decide (distance r cc < distance b.chainage cc)
      | none => true
    nearestFrom cc window (i + 1)
      (if distance r cc ≤ window ∧ nearer then some { index := i, chainage := r, label := label } else best) rest
  | .segment _ _ _ :: rest => nearestFrom cc window (i + 1) best rest

/-- The chosen candidate of a strobe (R119). -/
def nearest (table : List RouteEntry) (cc : Int) (window : Nat) : Option Match := nearestFrom cc window 0 none table

/-- The REFERENCE index of a fix of origin TAG (R120). -/
def Fix.tagIndex (f : Fix) : Option Nat :=
  match f.origin with
  | .tag i _ => some i
  | .manual => none

/-- The FIX record of a fix that ends (R122, R123, §6.8). -/
def Fix.record (f : Fix) (status : FixStatus) (beforeAfter : Option (Int × Int)) : FixRecord :=
  { status := status, capture := f.capture, offset := some f.offset, beforeAfter := beforeAfter
    isTag := f.tagIndex.isSome
    reference :=
      match f.origin with
      | .tag i l => some (i, l)
      | .manual => none }

/-- A fix placed: it becomes the pending fix, and one it replaces is queued SUPERSEDED (R97, R123). -/
def Work.placeFix (w : Work) (f : Fix) : Work :=
  let old := w.st.odo.pendingFix
  let w := w.modify fun s => s.withOdo { s.odo with pendingFix := some f }
  match old with
  | some g => w.queue (.fix (g.record .superseded none))
  | none => w

/-- The pending fix cancelled at STOP or fault entry (R99, R123). -/
def Work.cancelFix (w : Work) : Work :=
  match w.st.odo.pendingFix with
  | some f =>
    (w.modify fun s => s.withOdo { s.odo with pendingFix := none }).queue (.fix (f.record .cancelled none))
  | none => w

/-- A strobe taken in RUNNING or PAUSED (R118, R119). -/
def Work.takeStrobe (w : Work) : Work :=
  let s := w.st
  let cc := s.chainage
  match nearest s.route.entries cc (s.effNat Param.matchWindow) with
  | none =>
    (w.queue (.fix { status := .unmatched, isTag := true, capture := cc, reference := none, offset := none,
                     beforeAfter := none })).raise .unmatchedTag
  | some m =>
    if s.odo.pendingFix.bind Fix.tagIndex = some m.index ∨ s.route.lastApplied = some m.index then
      w.queue (.fix { status := .repeated, isTag := true, capture := cc, reference := some (m.index, m.label),
                      offset := none, beforeAfter := none })
    else w.placeFix { offset := m.chainage - cc, origin := .tag m.index m.label, capture := cc }

/-! ### Marks -/

/-- The held mark after a press: filled, or overwritten with one more merged press (R125). -/
def RingContext.markAfter (r : RingContext) (chainage : Int) : HeldMark :=
  match r.heldMark with
  | none => { chainage := chainage, ringSeq := r.sequence, angle := r.lastAngle, merged := 1 }
  | some m => { m with chainage := chainage, angle := r.lastAngle, merged := satInc 255 m.merged }

/-- A press taken into the open ring (R125). -/
def RingContext.press (r : RingContext) (chainage : Int) : RingContext :=
  { r with heldMark := some (r.markAfter chainage) }

/-- The MARK record of a ring's end, if the ring holds a mark (R126). -/
def Work.queueMark (w : Work) (r : RingContext) (status : RingStatus) : Work :=
  match r.heldMark with
  | some m => w.queue (.mark m r.chainage status)
  | none => w

end Sys2Proof.Machine
end

