-- ==== Sys2Proof/Machine/RunControl.lean ====
section
/-! DEFINITION. Abandoning a ring, leaving RUNNING, closing every intrusion, the run summary, fault entry and the taking
of a fatal cause (R15, R82 to R84, R134, R139 to R142). -/

namespace Sys2Proof.Machine

/-- The open ring, if the Ring Assembler is OPEN (§1.5). -/
def State.openRing (s : State) : Option RingContext :=
  match s.ring.asm with
  | .opened r => some r
  | _ => none

/-- The open ring abandoned: its slot freed unsent, its held mark queued ABANDONED (R15). -/
def Work.abandonRing (w : Work) : Work :=
  match w.st.openRing with
  | some r => (w.modify fun s => s.dropProfile r).queueMark r .abandoned
  | none => w

/-- The work common to every leaving of RUNNING (R134): the open ring, the Ring Assembler and the stall timer, the
WAITING slots, the alert line, the LIVE class. DESIGN CHOICE, unsafe (log entry 30): R134 gives its points no order; they
are done as they stand there, so the MARK record ABANDONED stands before the PARAM_ADJUSTED NOTICE. -/
def Work.leaveRunning (w : Work) : Work :=
  (((w.abandonRing.modify fun s => s.withRing { s.ring with asm := .inactive, stall := none }).modify
    State.commitWaiting).modify fun s => s.withTracker { s.tracker with alert := false }).takeLiveIfWaiting

/-- Every open intrusion closed in ascending number with one flag, the table left empty, every sector CLEAR (R82 to
R84). The close ring is the ring sequence as it stands. -/
def Work.closeAll (w : Work) (why : CloseCause) (chainage : Int) : Work :=
  (w.st.tracker.table.foldl
    (fun w x => w.queue (.intrusionClose x chainage w.st.ring.ringSeq why none)) w).modify fun s =>
      s.withTracker s.tracker.cleared

/-- The run summary's fields as they stand (R139); the intrusions opened are the counter less 1 (R68). -/
def State.runSummary (s : State) (byFault : Bool) (endChainage : Int) : RunSummary :=
  { byFault := byFault, opened := s.ring.ringSeq, accepted := s.ring.accepted, short := s.ring.short,
    long := s.ring.long, madeReady := s.link.madeReady, skipped := s.link.runSkipped,
    intrusions := s.tracker.counter - 1, startChainage := s.ctrl.startChainage, endChainage := endChainage }

/-- The run state replaced, the chainage at pause made absent: the last step of STOP and of fault entry (R138, R140). -/
def State.endRun (s : State) (r : RunState) : State := s.withCtrl { s.ctrl with run := r, chainageAtPause := none }

/-- Fault entry, in the order of R140. -/
def Work.faultEntry (w : Work) (c : Cause) : Work :=
  let at0 := w.st.chainage
  let w := w.modify fun s =>
    s.withCtrl { s.ctrl with faultRecord := some { cause := c, ringSeq := s.ring.ringSeq, chainage := at0 } }
  let w := if w.st.ctrl.run = .running then w.leaveRunning else w
  let w := w.cancelFix.closeAll .fault at0
  (w.queue (.runSummary (w.st.runSummary true at0))).modify fun s => s.endRun .fault

/-- A fatal cause taken once the part of the step that raised it is whole: fault entry from RUNNING or PAUSED, nothing
otherwise (R11, R129, R140, R142). What the entry itself raises is recorded only. -/
def Work.settle (w : Work) : Work :=
  match w.fatal with
  | none => w
  | some c =>
    if w.st.ctrl.run = .running ∨ w.st.ctrl.run = .paused then { (w.faultEntry c) with fatal := none }
    else { w with fatal := none }

/-- The answer of a step: what is left to take is taken, and the next state is given. -/
def Work.done (w : Work) : Result := .next w.settle.st

end Sys2Proof.Machine
end

