-- ==== Sys2Proof/Machine/Ring.lean ====
section
/-! DEFINITION. The Ring Assembler: the ring window, samples, opening, classifying and closing a ring (§1.5 to §1.9). -/

namespace Sys2Proof.Machine

/-! ### Window and stall timer -/

/-- The half-width floor(T × f) for f = 1/16, 1/8, 1/4, 1/2 (R10). -/
def halfWidth (period code : Nat) : Nat := period * 2 ^ code / 16

/-- The ring window from rev_period and rev_tolerance in effect (R10). -/
def State.windowOf (s : State) : Nat × Nat :=
  let t := s.effNat Param.revPeriod
  let h := halfWidth t (s.effNat Param.revTolerance)
  (t - h, t + h)

/-- The stall timer's expiry if it starts now: 4 × T later, modulo 2^32 (R14, §0.3). -/
def State.stallExpiry (s : State) : BitVec 32 :=
  s.clock.timeBase + BitVec.ofNat 32 (4 * s.effNat Param.revPeriod)

/-! ### Samples -/

/-- The ring's counts and last angle after a sample (R7). -/
def RingContext.count (r : RingContext) (v : Validity) (theta : Nat) : RingContext :=
  let r := { r with lastAngle := some theta }
  match v with
  | .valid => { r with valid := satInc Config.top32 r.valid }
  | .dropout => { r with dropout := satInc Config.top32 r.dropout }
  | .outOfWindow => { r with outOfWindow := satInc Config.top32 r.outOfWindow }

/-- A solved sample delivered to the Sector Tracker and to the ring's profile slot (R36). -/
def State.deliver (s : State) (r : RingContext) (x : Solved) : State :=
  let s := s.withTracker { s.tracker with
    accumulators := s.tracker.accumulators.set x.sector.val (s.tracker.accumulators[x.sector].add x) }
  match r.profileSlot with
  | some k => s.withLink (s.link.setSlot k (s.link.slots[k].deliver r.stride x.point))
  | none => s

/-- One sample of the open ring, whole (R7, R23). -/
def State.takeSample (s : State) (raw : Nat) (x : Sample) : State :=
  match s.ring.asm with
  | .opened r =>
    let theta := correctedAngle s raw
    let v := validity s x
    let s' := s.withRing { s.ring with asm := .opened (r.count v theta) }
    if v = .valid then s'.deliver r (solve s r theta x) else s'
  | _ => s

/-- The samples of a SAMPLE_RUN from sample `j` on: raw angle (a0 + j × step) mod 16384 (R7). -/
def State.takeSamples (s : State) (a0 step : Nat) (j : Nat) : List Sample → State
  | [] => s
  | x :: xs => (s.takeSample ((a0 + j * step) % 16384) x).takeSamples a0 step (j + 1) xs

/-! ### Opening -/

/-- The pending fix applied as a ring opens: CHAINAGE_LIMIT if clamped, the last applied entry set, the FIX record
queued with status APPLIED or MANUAL (R98, R120, R122). -/
def Work.applyFix (w : Work) : Work :=
  match w.st.odo.pendingFix with
  | none => w
  | some f =>
    let before := w.st.chainage
    let w := (w.modify fun s => s.withOdo { s.odo with pendingFix := none }).setAccumulator
      (w.st.odo.accumulator + f.offset * Config.unitsPerMm)
    (w.modify fun s => s.withRoute { s.route with lastApplied := f.tagIndex }).queue
      (.fix (f.record (if f.tagIndex.isSome then .applied else .manual) (some (before, w.st.chainage))))

/-- The spacing of a ring at chainage `c` (R101). -/
def Odometer.spacing (o : Odometer) (c : Int) : Option Nat := o.spacingRef.map fun r => distance c r

/-- The spacing test (R102). -/
def spacedWide (maxSpacing : Nat) (spacing : Option Nat) : Bool :=
  maxSpacing ≠ 0 &&
    (match spacing with
     | some d => maxSpacing < d
     | none => false)

/-- Segment selection at an opening, with OFF_ROUTE raised at the first ring of the run or on leaving a SEGMENT (R115,
R116). -/
def Work.selectSegment (w : Work) : Work :=
  let s := w.st
  let sel := Machine.selectSegment s.route.entries (s.eff Param.hysteresis) s.route.current s.chainage
  (w.modify fun s => s.withRoute { s.route with current := sel }).raiseIf
    (decide (sel = none ∧ (s.ring.ringSeq = 1 ∨ s.route.current ≠ none))) .offRoute

/-- The context of a ring that opens, from the state as the opening's steps left it (R8, R100, R116). -/
def State.newContext (s : State) (fixApplied : Bool) (profileSlot : Option (Fin 3)) : RingContext :=
  let spacing := s.odo.spacing s.chainage
  { sequence := s.ring.ringSeq, openTime := s.clock.timeBase, chainage := s.chainage, spacing := spacing,
    direction := s.odo.direction, segment := s.route.current, slot := slotOf s.route.entries s.route.current,
    warnMargin := marginOf s.route.entries s.route.current (s.effNat Param.warnMargin),
    decimation := s.effNat Param.decimation, stride := 2 ^ s.effNat Param.pointStride, profileSlot := profileSlot,
    heldMark := none, valid := 0, dropout := 0, outOfWindow := 0, framesMissing := 0, lastAngle := none,
    spacedWide := Machine.spacedWide (s.effNat Param.maxSpacing) spacing, fixApplied := fixApplied }

/-- The steps of an opening that may raise causes or queue records, in the order of R8; the ring sequence is raised
first. -/
def Work.openingSteps (w : Work) : Work × Option (Fin 3) :=
  let w := (w.modify fun s => s.withRing { s.ring with ringSeq := satInc Config.top32 s.ring.ringSeq }).takeLiveIfWaiting
  let w := w.applyFix
  let w := w.raiseIf
    (Machine.spacedWide (w.st.effNat Param.maxSpacing) (w.st.odo.spacing w.st.chainage)) .spacingWide
  let w := w.selectSegment
  w.claimProfile w.st.ring.ringSeq (w.st.effNat Param.decimation)

/-- A ring opens (R8): the steps above, the WAITING slots made live (R42), the accumulators emptied (R47), the context
filled, the stall timer restarted (R14). -/
def Work.openRing (w : Work) : Work :=
  let fixed := w.st.odo.pendingFix.isSome
  let r := w.openingSteps
  r.1.modify fun s =>
    let s := s.commitWaiting
    let s := s.withTracker s.tracker.emptied
    s.withRing { s.ring with asm := .opened (s.newContext fixed r.2), stall := some s.stallExpiry }

/-! ### Closing -/

/-- The classification of a ring by its elapsed time against the window (R11). -/
def classify (tMin tMax t : Nat) : RingStatus :=
  if t < tMin then .short else if t ≤ tMax then .accepted else .long

/-- The elapsed time of a ring, modulo 2^32 (R11, §0.3). -/
def State.elapsed (s : State) (r : RingContext) : Nat := (s.clock.timeBase - r.openTime).toNat

/-- What a pass emits, queued and raised in order (R75, R178). -/
def Work.emit (w : Work) : Emission → Work
  | .record b => w.queue b
  | .cause c => w.raise c

/-- The evaluation pass of a closing ACCEPTED ring: the tracker as the pass leaves it, the alert line following the
table, then what the pass emits (R75, R76, R85). -/
def Work.evaluate (w : Work) (r : RingContext) : Work :=
  let p := w.st.evaluate r
  p.out.foldl Work.emit (w.modify fun s => s.withTracker { s.tracker with
    sectors := p.sectors, table := p.table, counter := p.counter, alert := !p.table.isEmpty })

/-- An ACCEPTED close: the pass, the profile made ready, the MARK record, the counts, the spacing reference (R11,
R12). The summary is of the ring's own verdicts (R55). -/
def Work.closeAccepted (w : Work) (r : RingContext) : Work :=
  let summary := w.st.summary r.slot
  let w := ((w.evaluate r).modify fun s => s.makeReady r summary).queueMark r .accepted
  w.modify fun s =>
    (s.withRing { s.ring with discards := 0, accepted := satInc Config.top32 s.ring.accepted }).withOdo
      { s.odo with spacingRef := some r.chainage }

/-- A SHORT or LONG close: the slot freed, the MARK record, the cause, the counts, HEAD_UNSTABLE at the fourth in a row
(R13). -/
def Work.closeDiscarded (w : Work) (r : RingContext) (tooLong : Bool) : Work :=
  let w := ((w.modify fun s => s.dropProfile r).queueMark r (if tooLong then .long else .short)).raise
    (if tooLong then .ringLong else .ringShort)
  let w := w.modify fun s => s.withRing
    (if tooLong then { s.ring with long := satInc Config.top32 s.ring.long, discards := s.ring.discards + 1 }
     else { s.ring with short := satInc Config.top32 s.ring.short, discards := s.ring.discards + 1 })
  w.raiseIf (decide (Config.maxDiscards ≤ w.st.ring.discards)) .headUnstable

/-- A ring closes by its classification, and no ring is open after it (R11). -/
def Work.closeRing (w : Work) (r : RingContext) : Work :=
  let w :=
    match classify w.st.ring.tMin w.st.ring.tMax (w.st.elapsed r) with
    | .accepted => w.closeAccepted r
    | .short => w.closeDiscarded r false
    | .long => w.closeDiscarded r true
    | .abandoned => w
  w.modify fun s => s.withRing { s.ring with asm := .waiting }

/-- A RING_START handed over (R9, R11): ignored when INACTIVE; when WAITING it opens a ring; when OPEN it closes the
open ring, a fatal cause of the close is taken, and if the run goes on the next ring opens. -/
def Work.ringStart (w : Work) : Work :=
  match w.st.ring.asm with
  | .inactive => w
  | .waiting => w.openRing
  | .opened r =>
    let w := (w.closeRing r).settle
    if w.st.ctrl.run = .running then w.openRing else w

end Sys2Proof.Machine
end

