-- ==== Sys2Proof/Machine/HeadLink.lean ====
section
/-! DEFINITION. The Head Link Receiver: symbol lock, frame lock, sequence gaps and the hand-over of good frames (R1 to
R5, R9, R11, R174), and the expiry of the stall timer (R14). -/

namespace Sys2Proof.Machine

/-- A good frame in SEARCHING: the good-run count and the last sequence number, and lock at the fourth (R2). -/
def HeadLink.countGood (h : HeadLink) (seq : Byte) : HeadLink :=
  if h.goodRun + 1 = Config.lockRun then { h with lock := .locked, goodRun := 0, badRun := 0, lastSeq := some seq }
  else { h with goodRun := h.goodRun + 1, lastSeq := some seq }

/-- The gap a good frame reveals in LOCKED: (frame sequence − expected sequence) mod 256 (R4). -/
def HeadLink.gap (h : HeadLink) (seq : Byte) : Nat :=
  match h.lastSeq with
  | some l => (seq - (l + 1)).toNat
  | none => 0

/-- The open ring's frames-missing count raised by a gap, saturating at 65535; counted nowhere with no ring open
(R4). -/
def State.addMissing (s : State) (gap : Nat) : State :=
  match s.ring.asm with
  | .opened r => s.withRing { s.ring with asm := .opened { r with framesMissing := satAdd 65535 r.framesMissing gap } }
  | _ => s

/-- A good frame checked for a gap in LOCKED (R3, R4). -/
def Work.checkGap (w : Work) (seq : Byte) : Work :=
  let gap := w.st.head.gap seq
  ((w.modify fun s => s.withHead { s.head with badRun := 0, lastSeq := some seq }).modify fun s =>
    s.addMissing gap).raiseIf (gap ≠ 0) .headFrameLoss

/-- A head note (R174). -/
def Work.headNote (w : Work) (bytes : List Byte) : Work :=
  if w.st.eff Param.headNotes = 1 then w.queue (.headNote bytes) else w

/-- A good frame handed to its consumer by kind (R5, R7, R9, R11, R174). -/
def Work.handOver (w : Work) : HeadFrame → Work
  | .sampleRun a0 step samples => w.modify fun s => s.takeSamples a0.toNat step.toNat 0 samples
  | .ringStart _ => w.ringStart
  | .headStatus bytes => w.headNote bytes

/-- A good frame by lock state (R2, R3). A fatal cause of the gap's report is taken before the hand-over. -/
def Work.goodFrame (w : Work) (seq : Byte) (f : HeadFrame) : Work :=
  match w.st.head.lock with
  | .searching => w.modify fun s => s.withHead (s.head.countGood seq)
  | .locked => (w.checkGap seq).settle.handOver f

/-- The loss of lock: SEARCHING, the counts 0, the last sequence absent (R3). -/
def HeadLink.unlocked (h : HeadLink) : HeadLink :=
  { h with lock := .searching, goodRun := 0, badRun := 0, lastSeq := none }

/-- A bad frame's count in LOCKED, and the loss of lock at the eighth with its cause (R3). -/
def Work.countBad (w : Work) : Work :=
  if w.st.head.badRun + 1 < Config.unlockRun then
    w.modify fun s => s.withHead { s.head with badRun := s.head.badRun + 1 }
  else
    (w.modify fun s => s.withHead s.head.unlocked).raise
      (if w.st.ctrl.run = .running then .headLost else .headUnlocked)

/-- A bad frame by lock state (R2, R3). -/
def Work.badFrame (w : Work) : Work :=
  match w.st.head.lock with
  | .searching => w.modify fun s => s.withHead { s.head with goodRun := 0 }
  | .locked => (w.raise .headFrameLoss).settle.countBad

/-! ### Symbols -/

/-- The partly received head frame replaced. -/
def Work.setHeadPart (w : Work) (f : Option (List Byte)) : Work :=
  w.modify fun s => s.withHead { s.head with partFrame := f }

/-- A head frame with all its bytes judged by R1. -/
def Work.judgeHead (w : Work) (frame : List Byte) : Work :=
  (match parseHeadFrame frame with
   | some (seq, f) => w.goodFrame seq f
   | none => w.badFrame).settle

/-- A symbol under symbol lock (R1): a delimiter begins a frame and cuts one under way, a byte joins it and ends it when it
has all its bytes, an invalid symbol ends it bad, symbols outside a frame are discarded. Symbol lock is lost with an invalid
symbol, so that an incomplete frame counts once. DESIGN CHOICE, unsafe (log entry 33): an idle symbol inside a frame is
no byte of it, and every invalid symbol of section 1.1 ends the frame at once. -/
def Work.headSymbol (w : Work) (x : Symbol) : Work :=
  match w.st.head.partFrame, x with
  | none, .delimiter => w.setHeadPart (some [])
  | none, _ => w
  | some f, .data b =>
    let g := f ++ [b]
    if headFrameWhole g then (w.setHeadPart none).judgeHead g else w.setHeadPart (some g)
  | some _, .delimiter => (w.setHeadPart (some [])).badFrame.settle
  | some _, .invalid => (w.setHeadPart none).badFrame.settle
  | some _, .idle => w

/-- One head link symbol received: symbol lock moves, and with lock the symbol is read (§1.1, R1). -/
def Work.receiveHead (w : Work) (x : Symbol) : Work :=
  let before := w.st.head.sync
  let w := w.modify fun s => s.withHead { s.head with sync := before.next x }
  if before.held then w.headSymbol x else w

/-! ### The commands -/

/-- HEAD_FRAME_GOOD (R1, R2): the symbols are received, and R1 says whether a frame that ends with them is good (log entries
8, 10). -/
def execHeadFrameGood (symbols : List Symbol) (s : State) : Result :=
  (symbols.foldl Work.receiveHead (Work.of s)).done

/-- HEAD_FRAME_BAD (R1, R3): the symbols are received, and R1 says whether a frame that ends with them is bad (log entries 8,
10). -/
def execHeadFrameBad (symbols : List Symbol) (s : State) : Result :=
  (symbols.foldl Work.receiveHead (Work.of s)).done

/-- HEAD_SYMBOL_LOCK (R1): the row stands for its three consecutive K28.5 symbols. A receiver with lock is no occasion. -/
def execHeadSymbolLock (s : State) : Result :=
  if s.head.symbolLock then .next s
  else ((List.replicate Config.symbolLockRun .idle).foldl Work.receiveHead (Work.of s)).done

/-- HEAD_SYMBOL_LOCK_LOST (R1): the symbols are received; with the fourth invalid one in a row no frame is received any
more. A receiver without lock is no occasion. -/
def execHeadSymbolLockLost (symbols : List Symbol) (s : State) : Result :=
  if s.head.symbolLock then (symbols.foldl Work.receiveHead (Work.of s)).done else .next s

/-- HEAD_STALL (R14): the running timer reaches its expiry, stops and raises HEAD_STALL. A stopped timer has no
expiry. -/
def execHeadStall (s : State) : Result :=
  if s.ring.stall.isSome then
    (((Work.of s).modify fun s => s.withRing { s.ring with stall := none }).raise .headStall).done
  else .next s

end Sys2Proof.Machine
end

