-- ==== Sys2Proof/Machine/Inputs.lean ====
section
/-! DEFINITION. The commands of the discrete inputs: level changes, decoder moves, edges, and the odometer update (R87 to
R94, R117, R118, R125). -/

namespace Sys2Proof.Machine

/-- ODOMETER_UPDATE (R92 to R94). -/
def execOdometerUpdate (s : State) : Result := (Work.of s).odometerUpdate.done

/-- The move a wheel's decoder makes to the levels of a sample (R89). -/
def State.wheelMove (s : State) (w : Wheel) (a b : Level) : Move :=
  moveOf (position (s.acceptedLevel (wheelPinA w)) (s.acceptedLevel (wheelPinB w))) (position a b)

/-- WHEEL_DECODE (R89): the filters hold the new levels, the interval count follows the move, a move of two positions
raises ODO_GLITCH. -/
def execWheelDecode (w : Wheel) (a b : Level) (s : State) : Result :=
  let m := s.wheelMove w a b
  (((Work.of ((s.acceptLevel (wheelPinA w) a).acceptLevel (wheelPinB w) b)).modify fun s =>
    s.withOdo (s.odo.addCount w m.count)).raiseIf (m = .double) .odoGlitch).done

/-- TAG_STROBE (R117 to R119): a filtered rising edge of TAG_STB, taken in RUNNING and PAUSED. -/
def execTagStrobe (s : State) : Result :=
  let w := Work.of (s.acceptLevel .tagStb .high)
  if s.ctrl.run = .running ∨ s.ctrl.run = .paused then w.takeStrobe.done else w.done

/-- A mark press into the open ring, if there is one and the run is RUNNING (R125). -/
def State.pressMark (s : State) : State :=
  match s.ring.asm with
  | .opened r =>
    if s.ctrl.run = .running then s.withRing { s.ring with asm := .opened (r.press s.chainage) } else s
  | _ => s

/-- MARK_PRESS (R117, R125): a filtered rising edge of MARK_KEY. -/
def execMarkPress (s : State) : Result := .next (s.acceptLevel .markKey .high).pressMark

/-- INPUT_LEVEL_CHANGE (R87, R117): the raw level changes. The run count moves at the samples alone (log entry 24). -/
def execInputLevelChange (i : InputPin) (level : Level) (s : State) : Result := .next (s.withPins (s.pins.put i level))

/-- The input of a falling edge. -/
def edgePin : EdgeInput → InputPin
  | .tagStb => .tagStb
  | .markKey => .markKey

/-- FILTERED_FALLING_EDGE (R117): the accepted level falls to low; nothing else comes of it. -/
def execFilteredFallingEdge (i : EdgeInput) (s : State) : Result := .next (s.acceptLevel (edgePin i) .low)

end Sys2Proof.Machine
end

