-- ==== Sys2Proof/Machine/Operands.lean ====
section
/-! DEFINITION. Reading the fields of request payloads: slots, limits, parameter ids, route entries (§12.3, R39, R107,
R148), and the request codes of §12.3. -/

namespace Sys2Proof.Machine

/-- The request kinds of §12.3, which section 10.4 lists. -/
inductive RequestKind where
  | identify
  | readStatus
  | clearCauses
  | setParam
  | getParam
  | loadEnvelope
  | commitEnvelope
  | readEnvelope
  | loadRoute
  | trimRoute
  | readRoute
  | start
  | pause
  | resume
  | stop
  | clearFault
  | fixChainage
  | readIntrusions
  | headPass
  | reset
deriving DecidableEq, Repr

/-- A request kind's code (§12.3). -/
def RequestKind.code : RequestKind → Byte
  | .identify => 0x01
  | .readStatus => 0x02
  | .clearCauses => 0x03
  | .setParam => 0x10
  | .getParam => 0x11
  | .loadEnvelope => 0x20
  | .commitEnvelope => 0x21
  | .readEnvelope => 0x22
  | .loadRoute => 0x30
  | .trimRoute => 0x31
  | .readRoute => 0x32
  | .start => 0x40
  | .pause => 0x41
  | .resume => 0x42
  | .stop => 0x43
  | .clearFault => 0x44
  | .fixChainage => 0x45
  | .readIntrusions => 0x50
  | .headPass => 0x60
  | .reset => 0x7F

/-- Every request kind, in the order of §12.3. -/
def requestKinds : List RequestKind :=
  [.identify, .readStatus, .clearCauses, .setParam, .getParam, .loadEnvelope, .commitEnvelope, .readEnvelope,
   .loadRoute, .trimRoute, .readRoute, .start, .pause, .resume, .stop, .clearFault, .fixChainage, .readIntrusions,
   .headPass, .reset]

/-- The request a kind byte names, if any (R167). -/
def kindOf (b : Byte) : Option RequestKind := requestKinds.find? fun k => k.code == b

/-- The slot a byte of a request names; 8 to FFh name none (R39, R41, R45). -/
def readSlot (b : Byte) : Option SlotId := if h : b.toNat < 8 then some ⟨b.toNat, h⟩ else none

/-- The limits of a load, two bytes each (§12.3). -/
def readLimitList : List Byte → List (BitVec 16)
  | lo :: hi :: rest => BitVec.ofNat 16 (readLe [lo, hi]) :: readLimitList rest
  | _ => []

/-- A parameter id byte and the value bytes of a SET_PARAM (§12.3). -/
def readParamId (b : Byte) : Option ParamId := paramOfId b.toNat

/-- A SEGMENT's slot byte: a slot, NONE for FFh, or illegal (R107). -/
def readSegmentSlot (b : Byte) : Option (Option SlotId) := if b = 0xFF then some none else (readSlot b).map some

/-- A SEGMENT's warn margin: absent for FFFFh, 0 to 4095, or illegal (R107). -/
def readMargin (n : Nat) : Option (Option Nat) :=
  if n = 65535 then some none else if n ≤ 4095 then some (some n) else none

/-- A route entry from its eight bytes; none if its kind, slot or warn margin is illegal (R107, §12.3). -/
def readEntry (kind slot f0 f1 c0 c1 c2 c3 : Byte) : Option RouteEntry :=
  if kind = 0 then
    match readSegmentSlot slot, readMargin (readLe [f0, f1]) with
    | some sl, some m => some (.segment (readSigned [c0, c1, c2, c3]) sl m)
    | _, _ => none
  else if kind = 1 then some (.reference (readSigned [c0, c1, c2, c3]) (readLe [f0, f1]))
  else none

/-- The entries of a load, eight bytes each, the illegal ones as none. -/
def readEntryList : List Byte → List (Option RouteEntry)
  | k :: sl :: f0 :: f1 :: c0 :: c1 :: c2 :: c3 :: rest => readEntry k sl f0 f1 c0 c1 c2 c3 :: readEntryList rest
  | _ => []

/-- The place of the first illegal entry of a load, if any (R107). -/
def firstIllegal : List (Option RouteEntry) → Nat → Option Nat
  | [], _ => none
  | none :: _, i => some i
  | some _ :: rest, i => firstIllegal rest (i + 1)

/-- Whether a length is a whole number of `size`-byte items, at least one and at most `most`. -/
def wholeItems (len size most : Nat) : Bool := len % size = 0 && 1 ≤ len / size && len / size ≤ most

end Sys2Proof.Machine
end

