-- ==== Sys2Proof/Machine/Requests.lean ====
section
/-! DEFINITION. The performing of requests, shared by every request row (R167, R168, section 10.2). -/

namespace Sys2Proof.Machine

/-- The cause that goes with a reason (R168). -/
def Reason.cause : Reason → Cause
  | .unknownKind => .reqUnknown
  | .badLength => .reqLength
  | .wrongState => .reqState
  | .outOfRange => .reqRange
  | .routeInvalid => .reqRoute
  | .commitWaiting => .reqCommit
  | .headUnlocked => .headUnlocked

/-- A refusal: the cause that goes with the reason, then the response, with an index where the rule gives one
(R168). -/
def Work.refuse (w : Work) (r : Request) (why : Reason) (index : Option Nat) : Work :=
  (w.raise why.cause).respond
    { tag := r.tag, kind := r.kind, result := .refused, reason := some why,
      payload := match index with | some i => u16 i | none => [] }

/-- The response DONE (R168). -/
def Work.finish (w : Work) (r : Request) (payload : List Byte) : Work :=
  w.respond { tag := r.tag, kind := r.kind, result := .done, reason := none, payload := payload }

/-- Whether the Management Agent takes a request now: it is free, and the response queue has a free place. A waiting
RESET response keeps it from being free (R167, R175). -/
def RecorderLink.ready (l : RecorderLink) : Bool := l.agent = .free && decide (l.responses.length < Config.maxResponses)

/-- The oldest request, if the Agent takes it now and its kind is one the command performs (R167). -/
def State.takes (s : State) (serves : Option RequestKind → Bool) : Option Request :=
  match s.link.requests with
  | r :: _ => if s.link.ready && serves (kindOf r.kind) then some r else none
  | [] => none

/-- The state with the oldest request removed from the queue (R167). -/
def State.dropRequest (s : State) : State := s.withLink { s.link with requests := s.link.requests.tail }

/-- A request row: if the Agent takes the oldest request and its kind is the row's, the request leaves the queue and is
performed whole by `body`, which answers it; otherwise the command has no occasion and changes nothing. -/
def perform (serves : Option RequestKind → Bool) (body : Request → Work → Work) (s : State) : Result :=
  match s.takes serves with
  | some r => (body r (Work.of s.dropRequest)).done
  | none => .next s

/-- The membership test of a request kind's own row. -/
def RequestKind.only (k : RequestKind) (x : Option RequestKind) : Bool := x = some k

end Sys2Proof.Machine
end

