-- ==== Sys2Proof/Machine/Resets.lean ====
section
/-! DEFINITION. The two resets (R17 to R19, R22, R46, R56, R86, R104, R105, R128, R145, R146, R154, R164, R175, R176,
R181). -/

namespace Sys2Proof.Machine

/-- POWER_ON_RESET (R145 and the reset rules of every chapter): every field at its power-on value, but for the levels
the outside drives and the model's own fields. -/
def execPowerOnReset (s : State) : Result :=
  .next { State.reset with pins := s.pins, freeIndex := s.freeIndex, pending := s.pending }

/-- Whether the frame being sent is an accepted RESET's response: when it is transmitted, the reset takes effect (R156,
R175). -/
def State.resetDue (s : State) : Bool :=
  match s.link.agent, s.link.tx, s.link.responses with
  | .resetWaiting, some t, r :: _ => t.source = .response && r.isReset
  | _, _, _ => false

/-- The state when a RESET request takes effect: what the chapters keep, and reset values for the rest. A partly received
frame of either link is discarded (R19, R175), symbol lock and its counts are kept (log entries 2, 23). The ring window and
every value in effect come from the kept image (R19, R154). -/
def State.afterReset (s : State) : State :=
  let kept : State :=
    { State.reset with
      clock := s.clock
      pins := s.pins
      head := { State.reset.head with sync := s.head.sync }
      params := s.params.takeAll
      envelopes := s.envelopes.map EnvelopeSlot.dropPending
      route := { State.reset.route with entries := s.route.entries }
      link := .fresh s.link.sync
      freeIndex := s.freeIndex
      pending := s.pending }
  kept.withRing { kept.ring with tMin := kept.windowOf.1, tMax := kept.windowOf.2 }

/-- RESET_TAKES_EFFECT (R146, R175): the moment at which the accepted RESET's response has been transmitted. While that
response is not the frame being sent there is no occasion. -/
def execResetTakesEffect (s : State) : Result := if s.resetDue then .next s.afterReset else .next s

end Sys2Proof.Machine
end

