-- ==== Sys2Proof/Machine/LinkPort.lean ====
section
/-! DEFINITION. The Recorder Link Port's own commands: the link state, request frames, the arbiter, the end of a frame
(R155 to R157, R165, R166). -/

namespace Sys2Proof.Machine

/-- A good request taken in (R166): queued, answered BUSY, or an overrun. While a RESET response waits a full queue
drops it with no cause (R175). -/
def Work.takeIn (w : Work) (r : Request) : Work :=
  let l := w.st.link
  if l.requests.length < Config.maxRequests then
    w.modify fun s => s.withLink { s.link with requests := s.link.requests ++ [r] }
  else if l.agent.resetting then w
  else if l.placesTaken < Config.maxResponses then
    (w.respond { tag := r.tag, kind := r.kind, result := .busy, reason := none, payload := [] }).raise .reqBusy
  else w.raise .reqBusy

/-! ### The upstream receiver -/

/-- An upstream frame that has ended is judged: a good one is a request, a bad one raises REQ_CHECK (R165). -/
def Work.judgeFrame (w : Work) (symbols : List Symbol) : Work :=
  (match parseRequest symbols with
   | some r => w.takeIn r
   | none => w.raise .reqCheck).settle

/-- The partly received upstream frame replaced. -/
def Work.setPartFrame (w : Work) (f : Option (List Symbol)) : Work :=
  w.modify fun s => s.withLink { s.link with partFrame := f }

/-- A symbol on an UP link: a delimiter begins a frame, an idle symbol or a delimiter ends one, any other joins the frame
under way, and symbols outside a frame are discarded (R165). -/
def Work.receiveUp (w : Work) (x : Symbol) : Work :=
  match w.st.link.partFrame, x with
  | none, .delimiter => w.setPartFrame (some [])
  | none, _ => w
  | some f, .idle => (w.setPartFrame none).judgeFrame f
  | some f, .delimiter => (w.setPartFrame (some [])).judgeFrame f
  | some f, x => w.setPartFrame (some (f ++ [x]))

/-- The link goes DOWN: the frame being sent is cut off and its item stays; an upstream frame that had not ended is bad
(R155, R156, R165). -/
def Work.goDown (w : Work) (sync : SymbolLock) : Work :=
  ((w.modify fun s => s.withLink { s.link with sync := sync, partFrame := none, tx := none }).raiseIf
    w.st.link.partFrame.isSome .reqCheck).settle

/-- One upstream symbol received: symbol lock first, then the frame it belongs to (R155, R165). -/
def Work.receive (w : Work) (x : Symbol) : Work :=
  let before := w.st.link.sync
  let sync := before.next x
  if before.held && !sync.held then w.goDown sync
  else
    let w := w.modify fun s => s.withLink { s.link with sync := sync }
    if before.held then w.receiveUp x else w

/-! ### The commands -/

/-- REQUEST_FRAME (R155, R165, R166): the upstream symbols are received. While the link is DOWN they count towards symbol
lock and no frame is received. -/
def execRequestFrame (symbols : List Symbol) (s : State) : Result :=
  (symbols.foldl Work.receive (Work.of s)).done

/-- ARBITER_CHOOSE (R157). -/
def execArbiterChoose (s : State) : Result := .next s.choose

/-- FRAME_TRANSMITTED (R156, R163). With an accepted RESET's response this is the moment at which the reset takes effect
(R175). -/
def execFrameTransmitted (s : State) : Result := if s.resetDue then .next s.afterReset else .next s.transmitted

/-- RECORDER_LINK_UP (R155): the row stands for its three consecutive K28.5 symbols, with which the link comes UP, with no
cause and no record. A link that is UP is no occasion. -/
def execRecorderLinkUp (s : State) : Result :=
  if s.link.up then .next s
  else ((List.replicate Config.symbolLockRun .idle).foldl Work.receive (Work.of s)).done

/-- RECORDER_LINK_DOWN (R155, R156, R165): the symbols are received; the fourth invalid one in a row takes the link
DOWN. A link that is DOWN is no occasion. -/
def execRecorderLinkDown (symbols : List Symbol) (s : State) : Result :=
  if s.link.up then (symbols.foldl Work.receive (Work.of s)).done else .next s

end Sys2Proof.Machine
end

