-- ==== Sys2Proof/Machine/Queries.lean ====
section
/-! DEFINITION. The requests the Management Agent owns: UNKNOWN_KIND, IDENTIFY, READ_STATUS, CLEAR_CAUSES,
READ_INTRUSIONS, HEAD_PASS and its end, RESET (Chapter 10), and the head command line HC_TXD. -/

namespace Sys2Proof.Machine

/-! ### UNKNOWN_KIND, IDENTIFY -/

/-- A kind that names no request is refused (R167). -/
def unknownKind (r : Request) (w : Work) : Work := w.refuse r .unknownKind none

/-- UNKNOWN_KIND (R167). -/
def execUnknownKind (s : State) : Result := perform Option.isNone unknownKind s

/-- The IDENTIFY payload: part code, revision, capacities (R169, §12.3). -/
def identityBytes : List Byte :=
  Config.partCode ++ [Config.revision, byte 8] ++ u16 Config.maxRoute ++
    [byte Config.maxIntrusions, byte Config.maxEvents, byte 3]

/-- IDENTIFY performed (R169). -/
def identify (r : Request) (w : Work) : Work :=
  if r.payload = [] then w.finish r identityBytes else w.refuse r .badLength none

/-- IDENTIFY (R169). -/
def execIdentify (s : State) : Result := perform RequestKind.identify.only identify s

/-! ### READ_STATUS, CLEAR_CAUSES, READ_INTRUSIONS -/

/-- The fault record's nine bytes: cause, ring sequence, chainage; FFh, 0 and 0 when absent (§12.3). -/
def faultBytes : Option FaultRecord → List Byte
  | some f => [byte f.cause.bit] ++ u32 f.ringSeq ++ i32 f.chainage
  | none => [0xFF] ++ u32 0 ++ i32 0

/-- The adjusted list's ten bytes: how many ids, eight places, the further count (R153, §12.3). -/
def adjustedBytes (p : ParamStore) : List Byte :=
  [byte p.adjustedIds.length] ++ ((p.adjustedIds.map byte) ++ List.replicate 8 0).take 8 ++ [byte p.further]

/-- The READ_STATUS payload (R170, §12.3). The request itself has left its queue, and its own response place is not
counted. -/
def State.statusBytes (s : State) : List Byte :=
  [s.ctrl.run.code, s.head.lock.code] ++ u32 s.ring.ringSeq ++ i32 s.chainage ++ [s.odo.direction.code] ++
    optU16 s.route.current ++
    [slotByte (slotOf s.route.entries s.route.current), byte s.tracker.table.length] ++ u32 s.causes.toNat ++
    faultBytes s.ctrl.faultRecord ++ adjustedBytes s.params ++
    [byte s.link.requests.length, byte s.link.placesTaken, byte s.link.events.length, byte s.link.occupied]

/-- READ_STATUS performed (R170). -/
def readStatus (r : Request) (w : Work) : Work :=
  if r.payload = [] then w.finish r w.st.statusBytes else w.refuse r .badLength none

/-- READ_STATUS (R170). -/
def execReadStatus (s : State) : Result := perform RequestKind.readStatus.only readStatus s

/-- CLEAR_CAUSES performed (R171, R180). -/
def clearCauses (r : Request) (w : Work) : Work :=
  if r.payload.length = 4 then
    let w := w.modify fun s => s.withCauses (clearFlags s.causes (readLe r.payload))
    w.finish r (u32 w.st.causes.toNat)
  else w.refuse r .badLength none

/-- CLEAR_CAUSES (R171). -/
def execClearCauses (s : State) : Result := perform RequestKind.clearCauses.only clearCauses s

/-- The READ_INTRUSIONS payload: the count, then each entry and its owned sectors (R172, §12.3). -/
def SectorTracker.tableBytes (t : SectorTracker) : List Byte :=
  byte t.table.length :: t.table.flatMap fun x => x.bytes ++ u16 x.owned

/-- READ_INTRUSIONS performed (R172). -/
def readIntrusions (r : Request) (w : Work) : Work :=
  if r.payload = [] then w.finish r w.st.tracker.tableBytes else w.refuse r .badLength none

/-- READ_INTRUSIONS (R172). -/
def execReadIntrusions (s : State) : Result := perform RequestKind.readIntrusions.only readIntrusions s

/-! ### HEAD_PASS -/

/-- The Agent's state replaced. -/
def State.withAgent (s : State) (a : Agent) : State := s.withLink { s.link with agent := a }

/-- HEAD_PASS begun: the Agent holds its reserved place and sends the bytes; the response waits (R167, R173). -/
def headPass (r : Request) (w : Work) : Work :=
  if 1 ≤ r.payload.length ∧ r.payload.length ≤ 32 then w.modify fun s => s.withAgent (.headPass r.tag r.payload 0)
  else w.refuse r .badLength none

/-- HEAD_PASS (R173). -/
def execHeadPass (s : State) : Result := perform RequestKind.headPass.only headPass s

/-- HEAD_PASS_DONE (R173): the response is queued in the reserved place and the Agent is free. With no HEAD_PASS in
progress there is no occasion. -/
def execHeadPassDone (s : State) : Result :=
  match s.link.agent with
  | .headPass tag _ _ =>
    (((Work.of s).modify fun s => s.withAgent .free).respond
      { tag := tag, kind := RequestKind.headPass.code, result := .done, reason := none, payload := [] }).done
  | _ => .next s

/-- The level of one bit of a framed byte: the start bit, eight data bits least significant first, the stop bit
(R173). -/
def framedBit (b : Byte) (k : Nat) : Level :=
  if k = 0 then .low else if k ≤ 8 then (if b.getLsbD (k - 1) then .high else .low) else .high

/-- The output HC_TXD: the bit being sent, or high (R173, R176). -/
def State.hcTxd (s : State) : Level :=
  match s.link.agent with
  | .headPass _ bytes cycles =>
    let bit := cycles / Config.cyclesPerBit
    match bytes[bit / Config.bitsPerByte]? with
    | some b => framedBit b (bit % Config.bitsPerByte)
    | none => .high
  | _ => .high

/-- Reference clock cycles a HEAD_PASS of `n` bytes takes (R173). -/
def passCycles (n : Nat) : Nat := n * Config.bitsPerByte * Config.cyclesPerBit

/-! ### RESET -/

/-- RESET performed: answered DONE, and the Agent performs no further request (R175). -/
def reset (r : Request) (w : Work) : Work :=
  if r.payload = [] then (w.finish r []).modify fun s => s.withAgent .resetWaiting else w.refuse r .badLength none

/-- RESET (R175). -/
def execReset (s : State) : Result := perform RequestKind.reset.only reset s

end Sys2Proof.Machine
end

