-- ==== Sys2Proof/Machine/Runs.lean ====
section
/-! DEFINITION. The run-control requests START, PAUSE, RESUME, STOP and CLEAR_FAULT (Chapter 7) and FIX_CHAINAGE
(R121). -/

namespace Sys2Proof.Machine

/-! ### START -/

/-- The Ring Assembler and the stall timer at START (R6, R10, R14, R132). -/
def State.startRing (s : State) : State :=
  s.withRing
    { asm := .waiting, ringSeq := 0, discards := 0, tMin := s.windowOf.1, tMax := s.windowOf.2,
      stall := some s.stallExpiry, accepted := 0, short := 0, long := 0 }

/-- The Sector Tracker and the Envelope Store at START (R43, R56, R86). -/
def State.startSectors (s : State) : State :=
  (s.withTracker { s.tracker.cleared.emptied with counter := 1 }).commitWaiting

/-- The Odometer and the Route Unit at START with start chainage `v` (R96, R101, R114, R120). -/
def State.startTravel (s : State) (v : Int) : State :=
  (s.withOdo { s.odo.setTo v with spacingRef := none }).withRoute
    { s.route with current := lookup s.route.entries v, lastApplied := none }

/-- The output side and the Run Controller at START (R132, R164). -/
def State.startRun (s : State) (v : Int) : State :=
  (s.withLink { s.link with skipped := 0, madeReady := 0, runSkipped := 0 }).withCtrl
    { s.ctrl with run := .running, startChainage := some v, chainageAtPause := none }

/-- An accepted START, in the order of R132's table. -/
def Work.startAt (w : Work) (v : Int) : Work :=
  w.takeRun.modify fun s => (((s.startRing.startSectors).startTravel v).startRun v)

/-- START performed: the checks of R130 and R131 in order. -/
def start (r : Request) (w : Work) : Work :=
  match r.payload with
  | [v0, v1, v2, v3] =>
    if w.st.ctrl.run ≠ .idle then w.refuse r .wrongState none
    else if w.st.head.lock ≠ .locked then w.refuse r .headUnlocked none
    else
      match firstOffending w.st.route.entries with
      | some i => w.refuse r .routeInvalid (some i)
      | none => (w.startAt (readSigned [v0, v1, v2, v3])).finish r []
  | _ => w.refuse r .badLength none

/-- START (R132). -/
def execStart (s : State) : Result := perform RequestKind.start.only start s

/-! ### PAUSE and RESUME -/

/-- An accepted PAUSE (R134, R135). -/
def Work.pauseRun (w : Work) : Work :=
  w.leaveRunning.modify fun s => s.withCtrl { s.ctrl with run := .paused, chainageAtPause := some s.chainage }

/-- PAUSE performed (R130, R135). -/
def pause (r : Request) (w : Work) : Work :=
  if r.payload = [] then
    if w.st.ctrl.run = .running then w.pauseRun.finish r [] else w.refuse r .wrongState none
  else w.refuse r .badLength none

/-- PAUSE (R135). -/
def execPause (s : State) : Result := perform RequestKind.pause.only pause s

/-- Whether the gap test finds a gap (R136). -/
def State.gapFrom (s : State) (atPause : Int) : Bool := decide (s.effNat Param.maxGap < distance s.chainage atPause)

/-- The gap close of R137, if the gap test finds a gap. -/
def Work.gapClose (w : Work) : Work :=
  match w.st.ctrl.chainageAtPause with
  | some c => if w.st.gapFrom c then w.closeAll .gap c else w
  | none => w

/-- The rest of an accepted RESUME (R6, R14, R85, R137). -/
def State.resumeRun (s : State) : State :=
  ((s.withCtrl { s.ctrl with run := .running, chainageAtPause := none }).withRing
    { s.ring with asm := .waiting, discards := 0, stall := some s.stallExpiry }).withTracker
    { s.tracker with alert := !s.tracker.table.isEmpty }

/-- RESUME performed (R130, R136, R137). -/
def resume (r : Request) (w : Work) : Work :=
  if r.payload = [] then
    if w.st.ctrl.run = .paused then
      if w.st.head.lock = .locked then (w.gapClose.modify State.resumeRun).finish r []
      else w.refuse r .headUnlocked none
    else w.refuse r .wrongState none
  else w.refuse r .badLength none

/-- RESUME (R136). -/
def execResume (s : State) : Result := perform RequestKind.resume.only resume s

/-! ### STOP and CLEAR_FAULT -/

/-- An accepted STOP, in the order of R138. -/
def Work.stopRun (w : Work) : Work :=
  let w := if w.st.ctrl.run = .running then w.leaveRunning else w
  let w := w.cancelFix.closeAll .runEnd w.st.chainage
  (w.queue (.runSummary (w.st.runSummary false w.st.chainage))).modify fun s => s.endRun .idle

/-- STOP performed (R130, R138). -/
def stop (r : Request) (w : Work) : Work :=
  if r.payload = [] then
    if w.st.ctrl.run = .running ∨ w.st.ctrl.run = .paused then w.stopRun.finish r []
    else w.refuse r .wrongState none
  else w.refuse r .badLength none

/-- STOP (R138). -/
def execStop (s : State) : Result := perform RequestKind.stop.only stop s

/-- CLEAR_FAULT performed (R130, R143). -/
def clearFault (r : Request) (w : Work) : Work :=
  if r.payload = [] then
    if w.st.ctrl.run = .fault then
      (w.modify fun s => s.withCtrl { s.ctrl with run := .idle, faultRecord := none }).finish r []
    else w.refuse r .wrongState none
  else w.refuse r .badLength none

/-- CLEAR_FAULT (R143). -/
def execClearFault (s : State) : Result := perform RequestKind.clearFault.only clearFault s

/-! ### FIX_CHAINAGE -/

/-- An accepted FIX_CHAINAGE: in IDLE the chainage is set at once, in RUNNING or PAUSED a MANUAL fix is placed (R96,
R97, R121). -/
def Work.fixTo (w : Work) (v : Int) : Work :=
  if w.st.ctrl.run = .idle then w.modify fun s => s.withOdo (s.odo.setTo v)
  else w.placeFix { offset := v - w.st.chainage, origin := .manual, capture := w.st.chainage }

/-- FIX_CHAINAGE performed (R121). -/
def fixChainage (r : Request) (w : Work) : Work :=
  match r.payload with
  | [v0, v1, v2, v3] =>
    if w.st.ctrl.run = .fault then w.refuse r .wrongState none
    else (w.fixTo (readSigned [v0, v1, v2, v3])).finish r []
  | _ => w.refuse r .badLength none

/-- FIX_CHAINAGE (R121). -/
def execFixChainage (s : State) : Result := perform RequestKind.fixChainage.only fixChainage s

end Sys2Proof.Machine
end

