-- ==== Sys2Proof/Machine/Tables.lean ====
section
/-! DEFINITION. The requests over parameters, envelopes and the route table (Chapters 8, 3 and 6). -/

namespace Sys2Proof.Machine

/-! ### Parameters -/

/-- A value stored in the image (R148). -/
def ParamStore.store (ps : ParamStore) (p : ParamId) (v : Int) : ParamStore := { ps with image := ps.image.set p v }

/-- What follows a LIVE write: outside RUNNING the class is taken at once, in RUNNING the write waits (R148, R151). -/
def Work.afterLiveWrite (w : Work) : Work :=
  if w.st.ctrl.run = .running then w.modify fun s => s.withParams { s.params with liveWaiting := true }
  else w.takeLive

/-- SET_PARAM performed (R148). -/
def setParam (r : Request) (w : Work) : Work :=
  match r.payload with
  | [id, v0, v1, v2, v3] =>
    match readParamId id with
    | some p =>
      let w := w.modify fun s => s.withParams (s.params.store p (readSigned [v0, v1, v2, v3]))
      let w := if (paramRow p).cls = .live then w.afterLiveWrite else w
      w.finish r [id, v0, v1, v2, v3]
    | none => w.refuse r .outOfRange none
  | _ => w.refuse r .badLength none

/-- SET_PARAM (R148). -/
def execSetParam (s : State) : Result := perform RequestKind.setParam.only setParam s

/-- The GET_PARAM payload: id, class, image value, value in effect (R149, §12.3). -/
def ParamStore.paramBytes (ps : ParamStore) (p : ParamId) : List Byte :=
  [byte (idNumber p), (paramRow p).cls.code] ++ i32 ps.image[p] ++ i32 ps.effect[p]

/-- GET_PARAM performed (R149). -/
def getParam (r : Request) (w : Work) : Work :=
  match r.payload with
  | [id] =>
    match readParamId id with
    | some p => w.finish r (w.st.params.paramBytes p)
    | none => w.refuse r .outOfRange none
  | _ => w.refuse r .badLength none

/-- GET_PARAM (R149). -/
def execGetParam (s : State) : Result := perform RequestKind.getParam.only getParam s

/-! ### Envelopes -/

/-- A slot of the Envelope Store replaced. -/
def State.setEnvelope (s : State) (k : SlotId) (e : EnvelopeSlot) : State := s.withEnvelopes (s.envelopes.set k.val e)

/-- LOAD_ENVELOPE performed: length, slot, pending state, then the load (R39, R40). -/
def loadEnvelope (r : Request) (w : Work) : Work :=
  match r.payload with
  | slot :: first :: limits =>
    if wholeItems limits.length 2 64 then
      match readSlot slot with
      | some k =>
        if w.st.envelopes[k].state = .waiting then w.refuse r .commitWaiting none
        else
          (w.modify fun s => s.setEnvelope k (s.envelopes[k].load (Fin.ofNat 256 first.toNat) (readLimitList limits))).finish
            r []
      | none => w.refuse r .outOfRange none
    else w.refuse r .badLength none
  | _ => w.refuse r .badLength none

/-- LOAD_ENVELOPE (R40). -/
def execLoadEnvelope (s : State) : Result := perform RequestKind.loadEnvelope.only loadEnvelope s

/-- COMMIT_ENVELOPE performed (R41). -/
def commitEnvelope (r : Request) (w : Work) : Work :=
  match r.payload with
  | [slot] =>
    match readSlot slot with
    | some k =>
      (w.modify fun s => s.setEnvelope k (s.envelopes[k].commit (s.ctrl.run = .running))).finish r []
    | none => w.refuse r .outOfRange none
  | _ => w.refuse r .badLength none

/-- COMMIT_ENVELOPE (R41). -/
def execCommitEnvelope (s : State) : Result := perform RequestKind.commitEnvelope.only commitEnvelope s

/-- The limits READ_ENVELOPE returns, two bytes each, of the copy selected: 0 LIVE, 1 PENDING (R45). -/
def EnvelopeSlot.readBytes (e : EnvelopeSlot) (prepared : Bool) (first count : Byte) : List Byte :=
  (readLimits (if prepared then e.prepared else e.live) (Fin.ofNat 256 first.toNat) count.toNat).flatMap fun x => u16 x.toNat

/-- READ_ENVELOPE performed (R45). -/
def readEnvelope (r : Request) (w : Work) : Work :=
  match r.payload with
  | [slot, copy, first, count] =>
    match readSlot slot with
    | some k =>
      if (copy = 0 ∨ copy = 1) ∧ 1 ≤ count.toNat ∧ count.toNat ≤ 64 then
        w.finish r ([slot, copy, w.st.envelopes[k].state.code, first, count] ++
          w.st.envelopes[k].readBytes (copy = 1) first count)
      else w.refuse r .outOfRange none
    | none => w.refuse r .outOfRange none
  | _ => w.refuse r .badLength none

/-- READ_ENVELOPE (R45). -/
def execReadEnvelope (s : State) : Result := perform RequestKind.readEnvelope.only readEnvelope s

/-! ### Route -/

/-- Whether the route table may be changed: the run is IDLE or FAULT (R106, R107, R109). -/
def State.routeOpen (s : State) : Bool := s.ctrl.run = .idle || s.ctrl.run = .fault

/-- A changed route table; the current segment becomes OFF_ROUTE (R108, R109, R114). -/
def State.withTable (s : State) (entries : List RouteEntry) : State :=
  s.withRoute { s.route with entries := entries, current := none }

/-- LOAD_ROUTE performed: the checks of R107 in order, then the load of R108. -/
def loadRoute (r : Request) (w : Work) : Work :=
  match r.payload with
  | f0 :: f1 :: body =>
    if wholeItems body.length 8 32 then
      let f := readLe [f0, f1]
      let new := readEntryList body
      if w.st.routeOpen then
        if f ≤ w.st.route.entries.length ∧ f + new.length ≤ Config.maxRoute then
          match firstIllegal new 0 with
          | some k => w.refuse r .outOfRange (some (f + k))
          | none =>
            (w.modify fun s => s.withTable (writeEntries s.route.entries f (new.filterMap id))).finish r []
        else w.refuse r .outOfRange (some f)
      else w.refuse r .wrongState none
    else w.refuse r .badLength none
  | _ => w.refuse r .badLength none

/-- LOAD_ROUTE (R108). -/
def execLoadRoute (s : State) : Result := perform RequestKind.loadRoute.only loadRoute s

/-- TRIM_ROUTE performed (R109). -/
def trimRoute (r : Request) (w : Work) : Work :=
  match r.payload with
  | [n0, n1] =>
    if w.st.routeOpen then
      if readLe [n0, n1] ≤ w.st.route.entries.length then
        (w.modify fun s => s.withTable (s.route.entries.take (readLe [n0, n1]))).finish r []
      else w.refuse r .outOfRange none
    else w.refuse r .wrongState none
  | _ => w.refuse r .badLength none

/-- TRIM_ROUTE (R109). -/
def execTrimRoute (s : State) : Result := perform RequestKind.trimRoute.only trimRoute s

/-- The READ_ROUTE payload (R110, §12.3). -/
def RouteUnit.readBytes (t : RouteUnit) (f count : Nat) : List Byte :=
  let got := (t.entries.drop f).take count
  u16 t.entries.length ++ u16 f ++ [byte got.length] ++ got.flatMap RouteEntry.bytes

/-- READ_ROUTE performed (R110). -/
def readRoute (r : Request) (w : Work) : Work :=
  match r.payload with
  | [f0, f1, count] =>
    if 1 ≤ count.toNat ∧ count.toNat ≤ 32 ∧ readLe [f0, f1] ≤ w.st.route.entries.length then
      w.finish r (w.st.route.readBytes (readLe [f0, f1]) count.toNat)
    else w.refuse r .outOfRange none
  | _ => w.refuse r .badLength none

/-- READ_ROUTE (R110). -/
def execReadRoute (s : State) : Result := perform RequestKind.readRoute.only readRoute s

end Sys2Proof.Machine
end

