-- ==== Sys2Proof/Machine/Dispatch.lean ====
section
/-! DEFINITION. The meaning of every command, one arm per constructor of `Instr`. -/

namespace Sys2Proof.Machine

/-- A command's effect on everything but the queue of commands. -/
def exec (i : Instr) (s : State) : Host.Outcome State Fault Refusal :=
  match i with
  | .headFrameGood symbols => Sys2Proof.Machine.execHeadFrameGood symbols s
  | .headFrameBad symbols => Sys2Proof.Machine.execHeadFrameBad symbols s
  | .headStall => Sys2Proof.Machine.execHeadStall s
  | .odometerUpdate => Sys2Proof.Machine.execOdometerUpdate s
  | .wheelDecode wheel a b => Sys2Proof.Machine.execWheelDecode wheel a b s
  | .tagStrobe => Sys2Proof.Machine.execTagStrobe s
  | .markPress => Sys2Proof.Machine.execMarkPress s
  | .requestFrame symbols => Sys2Proof.Machine.execRequestFrame symbols s
  | .unknownKind => Sys2Proof.Machine.execUnknownKind s
  | .identify => Sys2Proof.Machine.execIdentify s
  | .readStatus => Sys2Proof.Machine.execReadStatus s
  | .clearCauses => Sys2Proof.Machine.execClearCauses s
  | .setParam => Sys2Proof.Machine.execSetParam s
  | .getParam => Sys2Proof.Machine.execGetParam s
  | .loadEnvelope => Sys2Proof.Machine.execLoadEnvelope s
  | .commitEnvelope => Sys2Proof.Machine.execCommitEnvelope s
  | .readEnvelope => Sys2Proof.Machine.execReadEnvelope s
  | .loadRoute => Sys2Proof.Machine.execLoadRoute s
  | .trimRoute => Sys2Proof.Machine.execTrimRoute s
  | .readRoute => Sys2Proof.Machine.execReadRoute s
  | .start => Sys2Proof.Machine.execStart s
  | .pause => Sys2Proof.Machine.execPause s
  | .resume => Sys2Proof.Machine.execResume s
  | .stop => Sys2Proof.Machine.execStop s
  | .clearFault => Sys2Proof.Machine.execClearFault s
  | .fixChainage => Sys2Proof.Machine.execFixChainage s
  | .readIntrusions => Sys2Proof.Machine.execReadIntrusions s
  | .headPass => Sys2Proof.Machine.execHeadPass s
  | .headPassDone => Sys2Proof.Machine.execHeadPassDone s
  | .reset => Sys2Proof.Machine.execReset s
  | .resetTakesEffect => Sys2Proof.Machine.execResetTakesEffect s
  | .powerOnReset => Sys2Proof.Machine.execPowerOnReset s
  | .arbiterChoose => Sys2Proof.Machine.execArbiterChoose s
  | .frameTransmitted => Sys2Proof.Machine.execFrameTransmitted s
  | .recorderLinkUp => Sys2Proof.Machine.execRecorderLinkUp s
  | .recorderLinkDown symbols => Sys2Proof.Machine.execRecorderLinkDown symbols s
  | .headSymbolLock => Sys2Proof.Machine.execHeadSymbolLock s
  | .headSymbolLockLost symbols => Sys2Proof.Machine.execHeadSymbolLockLost symbols s
  | .inputLevelChange pin level => Sys2Proof.Machine.execInputLevelChange pin level s
  | .filteredFallingEdge input => Sys2Proof.Machine.execFilteredFallingEdge input s

end Sys2Proof.Machine
end

