-- ==== Sys2Proof/Machine/Tick.lean ====
section
/-! DEFINITION. One microsecond of the time base, which is what a step does when no command waits (log entry 3): the
time-driven events of the block, each by the command that stands for it. -/

namespace Sys2Proof.Machine

/-- A command taken inside a tick. Every meaning answers a next state. -/
def State.after (s : State) (i : Instr) : State :=
  match exec i s with
  | .next t => t
  | .fault _ => s
  | .refused _ => s

/-- A command taken inside a tick if its occasion holds. -/
def State.afterIf (s : State) (b : Bool) (i : Instr) : State := if b then s.after i else s

/-! ### Inputs -/

/-- Whether the sample of an input completes a run (R87, R117). -/
def State.completes (s : State) (i : InputPin) : Bool := s.filterTime i ≤ (s.filters.get i).runCount

/-- One input sampled (R87, R117); a completed run is taken by the commands that follow in the tick. -/
def State.sampleInput (s : State) (i : InputPin) : State :=
  s.withFilters (s.filters.put i ((s.filters.get i).sample (s.pins.get i)))

/-- The level an input's decoder sees at this sample: the new one if its run is complete, else the accepted one. -/
def State.decodedLevel (s : State) (i : InputPin) : Level := if s.completes i then s.pins.get i else s.acceptedLevel i

/-- A wheel's decoder at a sample (R89). -/
def State.tickWheel (s : State) (w : Wheel) : State :=
  s.afterIf (s.completes (wheelPinA w) || s.completes (wheelPinB w))
    (.wheelDecode w (s.decodedLevel (wheelPinA w)) (s.decodedLevel (wheelPinB w)))

/-- The strobe or the mark key at a sample (R117). -/
def State.tickEdge (s : State) (e : EdgeInput) (rise : Instr) : State :=
  s.afterIf (s.completes (edgePin e))
    (match s.pins.get (edgePin e) with
     | .high => rise
     | .low => .filteredFallingEdge e)

/-- Every input sampled, and what the samples complete. -/
def State.tickInputs (s : State) : State :=
  let s := ((((((s.sampleInput .whlA).sampleInput .whlB).sampleInput .whrA).sampleInput .whrB).sampleInput
    .tagStb).sampleInput .markKey)
  (((s.tickWheel .left).tickWheel .right).tickEdge .tagStb .tagStrobe).tickEdge .markKey .markPress

/-! ### Time -/

/-- The time base and the microseconds to the next odometer update move on, and the update comes when due (§0.3,
R92). -/
def State.tickClock (s : State) : State :=
  let due := decide (Config.updatePeriod ≤ s.clock.sinceUpdate + 1)
  (s.withClock { timeBase := s.clock.timeBase + 1
                 sinceUpdate := if due then 0 else s.clock.sinceUpdate + 1 }).afterIf due .odometerUpdate

/-- The stall timer's expiry (R14). -/
def State.tickStall (s : State) : State := s.afterIf (s.ring.stall = some s.clock.timeBase) .headStall

/-! ### The links -/

/-- A HEAD_PASS in progress moves on by the cycles of one microsecond and ends after its last stop bit (R173). -/
def State.tickHeadPass (s : State) : State :=
  match s.link.agent with
  | .headPass tag bytes cycles =>
    (s.withAgent (.headPass tag bytes (cycles + Config.cyclesPerMicrosecond))).afterIf
      (passCycles bytes.length ≤ cycles + Config.cyclesPerMicrosecond) .headPassDone
  | _ => s

/-- The symbols of a frame, the start delimiter among them. -/
def Transmission.symbols (t : Transmission) : Nat := t.frame.length + 1

/-- The frame being sent moves on by the symbols of one microsecond; when its last CRC byte has been sent it is
transmitted (R156). -/
def State.tickTransmit (s : State) : State :=
  match s.link.tx with
  | some t =>
    let sent := t.sent + Config.symbolsPerMicrosecond
    let s := s.withLink { s.link with tx := some { t with sent := sent } }
    if t.symbols ≤ sent then s.after .frameTransmitted else s
  | none => s

/-- The command that performs a request of a kind; none stands for a kind that names no request (R167). -/
def performingCommand : Option RequestKind → Instr
  | none => .unknownKind
  | some .identify => .identify
  | some .readStatus => .readStatus
  | some .clearCauses => .clearCauses
  | some .setParam => .setParam
  | some .getParam => .getParam
  | some .loadEnvelope => .loadEnvelope
  | some .commitEnvelope => .commitEnvelope
  | some .readEnvelope => .readEnvelope
  | some .loadRoute => .loadRoute
  | some .trimRoute => .trimRoute
  | some .readRoute => .readRoute
  | some .start => .start
  | some .pause => .pause
  | some .resume => .resume
  | some .stop => .stop
  | some .clearFault => .clearFault
  | some .fixChainage => .fixChainage
  | some .readIntrusions => .readIntrusions
  | some .headPass => .headPass
  | some .reset => .reset

/-- The Management Agent takes the oldest request, if it can (R167). -/
def State.tickAgent (s : State) : State :=
  match s.takes fun _ => true with
  | some r => s.after (performingCommand (kindOf r.kind))
  | none => s

/-- One microsecond. -/
def State.tick (s : State) : State :=
  s.tickClock.tickInputs.tickStall.tickHeadPass.tickTransmit.tickAgent.after .arbiterChoose

end Sys2Proof.Machine
end

