-- ==== Sys2Proof/Safety.lean ====
section
/-! DEFINITION. What a good state of the block is, piece by piece, and the words that the obligations use for a performed
request, a reported cause and a queue with room. -/

namespace Sys2Proof.Machine

/-! ### Good states -/

/-- No queue holds more than its capacity (R153, R158, R166, R106, R78). -/
structure State.WithinCapacity (s : State) : Prop where
  events : s.link.events.length ≤ Config.maxEvents
  requests : s.link.requests.length ≤ Config.maxRequests
  places : s.link.placesTaken ≤ Config.maxResponses
  adjusted : s.params.adjustedIds.length ≤ Config.maxAdjusted
  route : s.route.entries.length ≤ Config.maxRoute

/-- The run state and what hangs on it agree (R6, R14, R85, R96, R99, R135, R141, R145). -/
structure State.RunCoherent (s : State) : Prop where
  assembler : s.ring.asm = .inactive ↔ s.ctrl.run ≠ .running
  stall : s.ring.stall.isSome = true ↔ s.ctrl.run = .running
  alert : s.tracker.alert = true ↔ s.ctrl.run = .running ∧ s.tracker.table ≠ []
  faultRecord : s.ctrl.faultRecord.isSome = true ↔ s.ctrl.run = .fault
  atPause : s.ctrl.chainageAtPause.isSome = true ↔ s.ctrl.run = .paused
  noFix : s.ctrl.run = .idle ∨ s.ctrl.run = .fault → s.odo.pendingFix = none
  noTable : s.ctrl.run = .idle ∨ s.ctrl.run = .fault → s.tracker.table = []

/-- A slot is WAITING only in RUNNING, and a CLEAN slot's pending copy equals its live copy (R38). -/
def State.EnvelopesCoherent (s : State) : Prop :=
  ∀ k : SlotId, (s.envelopes[k].state = .waiting → s.ctrl.run = .running) ∧
    (s.envelopes[k].state = .clean → s.envelopes[k].prepared = s.envelopes[k].live)

/-- The accumulator is in its range (R93). -/
def State.AccumulatorInRange (s : State) : Prop :=
  Config.accumulatorMin ≤ s.odo.accumulator ∧ s.odo.accumulator ≤ Config.accumulatorMax

/-- Every value in effect is one its parameter admits, and min_range lies below max_range (R21, R149, R152). -/
def State.EffectAdmitted (s : State) : Prop :=
  (∀ p : ParamId, (paramRow p).admits s.params.effect[p] = true) ∧ s.eff Param.minRange < s.eff Param.maxRange

/-- How many sectors an intrusion owns. -/
def SectorTracker.ownedBy (t : SectorTracker) (number : Nat) : Nat :=
  ((List.finRange 256).filter fun i => t.sectors[i].owner = some number).length

/-- The intrusion table is in ascending number below the counter and within its capacity, every entry owns a sector and
counts the sectors it owns, and every owned sector has its owner in the table (R57, R68, R76, R78). -/
structure SectorTracker.Owned (t : SectorTracker) : Prop where
  capacity : t.table.length ≤ Config.maxIntrusions
  ascending : (t.table.map Intrusion.number).Pairwise (· < ·)
  below : ∀ x ∈ t.table, x.number < t.counter
  counted : ∀ x ∈ t.table, 1 ≤ x.owned ∧ x.owned = t.ownedBy x.number
  owners : ∀ i : Sector, ∀ n, t.sectors[i].owner = some n → ∃ x ∈ t.table, x.number = n

/-- The spans of the open intrusions are 1 to 256 sectors long, share no sector and are kept apart by a free one, and
every owned sector lies inside its owner's span (R57, R78). -/
structure SectorTracker.Spans (t : SectorTracker) : Prop where
  lengths : ∀ x ∈ t.table, 1 ≤ x.span ∧ x.span ≤ 256
  apart : t.table.Pairwise fun x y => ∀ i : Sector, x.contains i = true →
    y.contains i = false ∧ y.contains (i + 1) = false ∧ y.contains (i - 1) = false
  inside : ∀ i : Sector, ∀ x ∈ t.table, t.sectors[i].owner = some x.number → x.contains i = true

/-- Every peak clearance is below zero, and so is what a peak can come from: the minimum of a streak, and the least
clearance of a sector with an infringing sample (R78, section 4.1). -/
structure SectorTracker.Negative (t : SectorTracker) : Prop where
  peaks : ∀ x ∈ t.table, x.peakClearance < 0
  streaks : ∀ (i : Sector) (k : Nat) (st : Streak), t.sectors[i] = .pending k st ∨ t.sectors[i] = .blocked st →
    st.minClearance < 0
  offers : ∀ i : Sector, 1 ≤ t.accumulators[i].infringing →
    ∃ l, t.accumulators[i].least = some l ∧ l.clearance < 0

/-- A streak count in PENDING lies below m_on, one in RELEASING below m_off (R57). -/
def State.CountsBelow (s : State) : Prop :=
  ∀ (i : Sector) (k : Nat),
    ((∃ st, s.tracker.sectors[i] = .pending k st) → 1 ≤ k ∧ k < s.effNat Param.mOn) ∧
    ((∃ o, s.tracker.sectors[i] = .releasing k o) → 1 ≤ k ∧ k < s.effNat Param.mOff)

/-- The profile slots agree with the open ring and with the order of transmission: exactly the open ring's slot is
FILLING, the READY and SENDING slots stand in the order once each, only the first of them is SENDING, a segment being
sent is the first one's, and no slot holds more than 4096 points (R157, R159, R160, R161). -/
structure State.ProfilesCoherent (s : State) : Prop where
  filling : ∀ k : Fin 3, (∃ points n truncated, s.link.slots[k] = .filling points n truncated) ↔
    ∃ r, s.ring.asm = .opened r ∧ r.profileSlot = some k
  once : s.link.readyOrder.Nodup
  ready : ∀ k : Fin 3, k ∈ s.link.readyOrder ↔ (s.link.slots[k].profile).isSome = true
  first : ∀ (k : Fin 3) (p : Profile), s.link.slots[k] = .sending p → s.link.readyOrder.head? = some k
  sent : ∀ (x : Transmission) (k : Fin 3), s.link.tx = some x → x.source = .segment k →
    s.link.readyOrder.head? = some k
  points : ∀ k : Fin 3, (∀ points n truncated, s.link.slots[k] = .filling points n truncated →
      points.length ≤ Config.maxPoints) ∧
    ∀ p, s.link.slots[k].profile = some p → p.points.length ≤ Config.maxPoints

/-! ### Words of the obligations -/

/-- The oldest request is `r`, of kind `k`, and the Management Agent takes it (R167). -/
structure State.Offers (s : State) (k : RequestKind) (r : Request) (rest : List Request) : Prop where
  queue : s.link.requests = r :: rest
  kind : r.kind = k.code
  free : s.link.agent = .free
  place : s.link.responses.length < Config.maxResponses

/-- The state with the request gone from its queue and its response at the tail of the response queue (R167). -/
def State.answered (s : State) (rest : List Request) (x : Response) : State :=
  s.withLink { s.link with requests := rest, responses := s.link.responses ++ [x] }

/-- The response DONE to a request. -/
def doneTo (r : Request) (payload : List Byte) : Response :=
  { tag := r.tag, kind := r.kind, result := .done, reason := none, payload := payload }

/-- The response REFUSED to a request. -/
def refusedTo (r : Request) (why : Reason) (payload : List Byte) : Response :=
  { tag := r.tag, kind := r.kind, result := .refused, reason := some why, payload := payload }

/-- The state with an event record of body `b` at the tail of the event queue (R158). -/
def State.recorded (s : State) (b : EventBody) : State :=
  s.withLink { s.link with events := s.link.events ++ [{ ringSeq := s.ring.ringSeq, body := b }] }

/-- The state with a cause reported, for an event queue with room: the flag set, and if it was clear and its class is
enabled, a NOTICE queued (R177, R178). -/
def State.reported (s : State) (c : Cause) : State :=
  if flagSet s.causes c then s
  else if s.reports c.cls then (s.withCauses (setFlag s.causes c)).recorded (.notice c s.chainage)
  else s.withCauses (setFlag s.causes c)

/-- The parameters of a class that a taking of the image adjusts, in ascending id (R152, R153). -/
def adjustedIn (image : Vector Int 46) (k : ParamClass) : List ParamId :=
  (List.finRange 46).filter fun p => (paramRow p).cls = k && (adjusted image p).2

/-- The parameters with every value of a class taken from the image (R150). -/
def ParamStore.taken (ps : ParamStore) (k : ParamClass) : Vector Int 46 :=
  Vector.ofFn fun p => if (paramRow p).cls = k then (adjusted ps.image p).1 else ps.effect[p]

/-- The state after a full LIVE taking, for an event queue with room: the values in effect, the adjusted list anew, the
mark cleared, and PARAM_ADJUSTED reported at the first adjustment, which ids below report_enable's meet with its old value
in effect and ids above with the new (R150 to R153; log entries 18 and 31). -/
def State.liveTaken (s : State) : State :=
  let ids := adjustedIn s.params.image .live
  let params : ParamStore := { s.params with
    effect := s.params.taken .live, adjustedIds := ids.map idNumber, further := 0, liveWaiting := false }
  match ids with
  | [] => s.withParams params
  | p :: _ =>
    if p < Param.reportEnable then (s.reported .paramAdjusted).withParams params
    else (s.withParams params).reported .paramAdjusted

/-- Every WAITING slot made live (R42, R43). -/
def State.waitingLive (s : State) : Vector EnvelopeSlot 8 :=
  s.envelopes.map fun e =>
    if e.state = .waiting then { live := e.prepared, prepared := e.prepared, state := .clean } else e

/-- The state after the work of leaving RUNNING, for an event queue with room: the open ring's slot freed and its mark
recorded ABANDONED, the Ring Assembler INACTIVE with the timer stopped, the WAITING slots live, ALERT off, then the LIVE
taking if a write waits (R15, R134; log entry 30). -/
def State.leftRunning (s : State) : State :=
  let freed :=
    match s.openRing.bind RingContext.profileSlot with
    | some k => s.withLink { s.link with slots := s.link.slots.set k .free }
    | none => s
  let marked :=
    match s.openRing with
    | some { heldMark := some m, chainage := c, .. } => freed.recorded (.mark m c .abandoned)
    | _ => freed
  let u := { marked with
    ring := { s.ring with asm := .inactive, stall := none }
    tracker := { s.tracker with alert := false }
    envelopes := s.waitingLive }
  if s.params.liveWaiting then u.liveTaken else u

/-- A ring's held mark recorded with the status the ring ended with, for an event queue with room (R126). -/
def State.marked (s : State) (r : RingContext) (status : RingStatus) : State :=
  match r.heldMark with
  | some m => s.recorded (.mark m r.chainage status)
  | none => s

/-- What an evaluation pass queues and raises, in order, for an event queue with room (R75, R178). -/
def State.emitted (s : State) (out : List Emission) : State :=
  out.foldl (fun u e =>
    match e with
    | .record b => u.recorded b
    | .cause c => u.reported c) s

/-- The state after fault entry by a cause already reported, for an event queue with room: the fault record, the work of
leaving RUNNING, then the FIX record CANCELLED, every intrusion closed FAULT in ascending number and the RUN_SUMMARY (R134,
R139, R140; log entries 18, 30 and 31). -/
def State.faulted (s : State) (c : Cause) : State :=
  let u := if s.ctrl.run = .running then s.leftRunning else s
  let cancelled : List EventBody :=
    match s.odo.pendingFix with
    | some f => [.fix { status := .cancelled, capture := f.capture, offset := some f.offset, beforeAfter := none,
                        isTag := (match f.origin with | .tag _ _ => true | .manual => false),
                        reference := (match f.origin with | .tag i l => some (i, l) | .manual => none) }]
    | none => []
  let closes : List EventBody := s.tracker.table.map fun x => .intrusionClose x s.chainage s.ring.ringSeq .fault none
  let summary : RunSummary :=
    { byFault := true, opened := s.ring.ringSeq, accepted := s.ring.accepted, short := s.ring.short,
      long := s.ring.long, madeReady := s.link.madeReady, skipped := s.link.runSkipped,
      intrusions := s.tracker.counter - 1, startChainage := s.ctrl.startChainage, endChainage := s.chainage }
  { u with
    odo := { s.odo with pendingFix := none }
    tracker := { u.tracker with table := [], sectors := Vector.replicate 256 .clear }
    ctrl := { s.ctrl with
      run := .fault, chainageAtPause := none
      faultRecord := some { cause := c, ringSeq := s.ring.ringSeq, chainage := s.chainage } }
    link := { u.link with
      events := u.link.events ++ (cancelled ++ closes ++ [EventBody.runSummary summary]).map fun b =>
        { ringSeq := s.ring.ringSeq, body := b } } }

/-- The payload lengths §12.3 gives each request (R39, R107, R173 for the lengths that vary). -/
def RequestKind.legalLength (k : RequestKind) (n : Nat) : Prop :=
  match k with
  | .identify | .readStatus | .pause | .resume | .stop | .clearFault | .readIntrusions | .reset => n = 0
  | .getParam | .commitEnvelope => n = 1
  | .trimRoute => n = 2
  | .readRoute => n = 3
  | .clearCauses | .readEnvelope | .start | .fixChainage => n = 4
  | .setParam => n = 5
  | .loadEnvelope => ∃ m, 1 ≤ m ∧ m ≤ 64 ∧ n = 2 + 2 * m
  | .loadRoute => ∃ m, 1 ≤ m ∧ m ≤ 32 ∧ n = 2 + 8 * m
  | .headPass => 1 ≤ n ∧ n ≤ 32

/-- The run states from which a request is refused with WRONG_STATE (R107, R109, R121, R130). -/
def RequestKind.refusedIn (k : RequestKind) (run : RunState) : Prop :=
  match k with
  | .start => run ≠ .idle
  | .pause => run ≠ .running
  | .resume => run ≠ .paused
  | .stop => run = .idle ∨ run = .fault
  | .clearFault => run ≠ .fault
  | .fixChainage => run = .fault
  | .loadRoute | .trimRoute => run = .running ∨ run = .paused
  | _ => False

/-- Symbol lock after a symbol that is not invalid: the run of invalid ones is over (section 1.1). -/
def SymbolLock.heard (l : SymbolLock) : SymbolLock := { l with invalids := 0 }

/-- A head link frame of a content arrives whole in LOCKED, in sequence after the last one (R3, R4). -/
structure State.Receives (s : State) (frame : List Byte) (seq : Byte) (f : HeadFrame) : Prop where
  symbols : s.head.symbolLock = true
  between : s.head.partFrame = none
  locked : s.head.lock = .locked
  content : parseHeadFrame frame = some (seq, f)
  inSequence : s.head.lastSeq = some (seq - 1)

/-- The state after a frame in sequence has been counted (R3, R4). -/
def State.counted (s : State) (seq : Byte) : State :=
  s.withHead { s.head with sync := s.head.sync.heard, badRun := 0, lastSeq := some seq }

/-- The symbols carry one bad head frame from its start delimiter on, and leave the receiver as `h` before the frame is
counted (R1): all its bytes arrived and the check fails, or a new delimiter or an invalid symbol came before they had. That
every invalid symbol of section 1.1 ends the frame bad at once is the model's choice (log entry 33). -/
def State.HearsBad (s : State) (symbols : List Symbol) (h : HeadLink) : Prop :=
  s.head.symbolLock = true ∧ s.head.partFrame = none ∧ ∃ frame : List Byte,
    (symbols = framed frame ∧ headFrameWhole frame = true ∧ headFrameWhole frame.dropLast = false ∧
      parseHeadFrame frame = none ∧ h = { s.head with sync := s.head.sync.heard }) ∨
    (headFrameWhole frame = false ∧ symbols = framed frame ++ [.delimiter] ∧
      h = { s.head with sync := s.head.sync.heard, partFrame := some [] }) ∨
    (headFrameWhole frame = false ∧ symbols = framed frame ++ [.invalid] ∧
      h = { s.head with sync := { s.head.sync with invalids := 1 } })

/-- The event queue has room for `n` more records. -/
def State.room (s : State) (n : Nat) : Prop := s.link.events.length + n ≤ Config.maxEvents

end Sys2Proof.Machine
end

