-- ==== Sys2Proof/Certificates/Slice0/Obligations.lean ====
section
/-! DEFINITION. The statements for the provers. -/

section

open Sys2Proof Sys2Proof.Machine

/-! ### Frames and steps -/

/-- Every legal head link frame, written and read again, gives its sequence and content; the bytes it is written as, the
end of a frame by its kind and length, and the frame check both ways: a frame gives a content exactly when it is kind,
sequence, length, a payload legal for the kind and the CRC of them all, the unused bits of a0 and of the flags ignored
(§12.2, R1, R5, R182, R183). -/
def Obligations.HeadFrameRoundTrip : Prop :=
  let checked (body : List Byte) : List Byte := body ++ leBytes 2 (crc16 body).toNat
  (∀ (seq : Byte) (f : HeadFrame), f.legal = true → parseHeadFrame (encodeHeadFrame seq f) = some (seq, f)) ∧
  (∀ (seq : Byte) (f : HeadFrame), encodeHeadFrame seq f = checked (
    match f with
    | .sampleRun a0 step xs =>
      [1, seq, BitVec.ofNat 8 xs.length] ++ leBytes 2 a0.toNat ++ [step, BitVec.ofNat 8 xs.length] ++
        xs.flatMap fun x => leBytes 2 x.range.toNat ++ [x.intensity,
          (if x.nr then 1 else 0) + (if x.sat then 2 else 0) + (if x.mult then 4 else 0)]
    | .ringStart counter => [2, seq, 2] ++ leBytes 2 counter.toNat
    | .headStatus bytes => [3, seq, BitVec.ofNat 8 bytes.length] ++ bytes)) ∧
  (∀ frame : List Byte, headFrameWhole frame = true ↔ ∃ kind seq len rest, frame = kind :: seq :: len :: rest ∧
    (if kind = 1 then 4 + 4 * len.toNat else len.toNat) + 2 ≤ rest.length) ∧
  ∀ (frame : List Byte) (seq : Byte) (f : HeadFrame), parseHeadFrame frame = some (seq, f) ↔
    match f with
    | .sampleRun a0 step xs => 1 ≤ xs.length ∧ xs.length ≤ 64 ∧ 1 ≤ step.toNat ∧ step.toNat ≤ 16 ∧
        ∃ (lo hi : Byte) (flags : List Byte), (lo.toNat + 256 * hi.toNat) % 16384 = a0.toNat ∧
          flags.length = xs.length ∧
          (∀ y ∈ xs.zip flags, y.1.nr = y.2.getLsbD 0 ∧ y.1.sat = y.2.getLsbD 1 ∧ y.1.mult = y.2.getLsbD 2) ∧
          frame = checked ([1, seq, BitVec.ofNat 8 xs.length, lo, hi, step, BitVec.ofNat 8 xs.length] ++
            (xs.zip flags).flatMap fun y => leBytes 2 y.1.range.toNat ++ [y.1.intensity, y.2])
    | .ringStart counter => frame = checked ([2, seq, 2] ++ leBytes 2 counter.toNat)
    | .headStatus bytes => 1 ≤ bytes.length ∧ bytes.length ≤ 16 ∧
        frame = checked ([3, seq, BitVec.ofNat 8 bytes.length] ++ bytes)

/-- Every request, written as an upstream frame and checked, gives its kind, tag and payload, and no other symbols
give that request. The CRC-16 byte by byte and the bytes of a number, least significant first, signed ones in two's
complement (§12.1, §12.3, R165, R182). The model's choice: every symbol that section 1.1 calls invalid, another
control symbol or a disparity break among them, makes an upstream frame bad (log entry 34). -/
def Obligations.RequestFrameRoundTrip : Prop :=
  (∀ r : Request, r.payload.length < 65536 → parseRequest (encodeRequest r) = some r) ∧
  (∀ (symbols : List Symbol) (r : Request), parseRequest symbols = some r ↔
    r.payload.length < 65536 ∧ symbols = (linkFrame r.kind r.tag r.payload).map .data) ∧
  crc16 [] = 0xFFFF ∧
  (∀ (bytes : List Byte) (b : Byte), crc16 (bytes ++ [b]) =
    [7, 6, 5, 4, 3, 2, 1, 0].foldl (fun (r : BitVec 16) k =>
      if r.getLsbD 15 = b.getLsbD k then r <<< 1 else (r <<< 1) ^^^ 0x1021) (crc16 bytes)) ∧
  (∀ n v : Nat, (leBytes n v).length = n ∧ ∀ j < n, (leBytes n v)[j]? = some (BitVec.ofNat 8 (v / 256 ^ j))) ∧
  (∀ (n : Nat) (v : Int), leSigned n v = leBytes n (v % 256 ^ n).toNat) ∧
  ∀ bytes : List Byte,
    leSigned bytes.length (readSigned bytes) = bytes ∧
      -(256 ^ bytes.length) ≤ 2 * readSigned bytes ∧ 2 * readSigned bytes < 256 ^ bytes.length

/-- The model's choice (log entry 4): a step takes the command at the front of the queue. -/
def Obligations.StepRunsFrontCommand : Prop :=
  ∀ (c : Instr) (rest : List Instr) (s : State), s.pending = c :: rest → step s = exec c (s.withPending rest)

/-- Every command answers a next state in every state, and leaves the queue of commands as it was. The model's choice: a
command with no occasion answers a next state too (log entry 5), and the queue is the model's own (log entry 4). -/
def Obligations.EveryCommandAnswers : Prop :=
  ∀ (c : Instr) (s : State), ∃ t, exec c s = .next t ∧ t.pending = s.pending

/-- The model's choice (log entries 3, 25): with no command waiting, a step is one microsecond, in stages. The time base
moves on and every 1000 microseconds the odometer update comes; each filter takes its sample, and a run that reaches the
filter time is taken, by the wheel's decoder, the strobe or the key; a stall timer at its expiry raises HEAD_STALL; a
HEAD_PASS moves on by 25 cycles and a transmission by 20 symbols, and each ends when its last bit or byte has gone; the
Agent takes a request; the arbiter chooses (R14, R87, R88, R89, R92, R117, R156, R157, R167, R173). -/
def Obligations.IdleStepIsOneMicrosecond : Prop :=
  (∀ s : State, s.pending = [] → ∃ t, step s = .next t ∧
    exec .arbiterChoose s.tickClock.tickInputs.tickStall.tickHeadPass.tickTransmit.tickAgent = .next t ∧
    t.clock.timeBase = s.clock.timeBase + 1 ∧ t.pins = s.pins ∧ t.pending = []) ∧
  (∀ s : State,
    let due := 1000 ≤ s.clock.sinceUpdate + 1
    let u := s.withClock { timeBase := s.clock.timeBase + 1, sinceUpdate := if due then 0 else s.clock.sinceUpdate + 1 }
    (due → exec .odometerUpdate u = .next s.tickClock) ∧ (¬ due → s.tickClock = u)) ∧
  (∀ s : State,
    let time (i : InputPin) : Nat :=
      match i with
      | .tagStb | .markKey =>
        if s.effNat Param.inputConstant = 0 then 1 else 1000 * 2 ^ (s.effNat Param.inputConstant - 1)
      | _ => s.effNat Param.wheelFilter + 1
    let run (i : InputPin) : Nat :=
      if (s.filters.get i).accepted = none ∨ (s.filters.get i).accepted = some (s.pins.get i) then 0
      else (s.filters.get i).runCount + 1
    let taken (i : InputPin) : Prop := time i ≤ run i
    (∀ i : InputPin, s.tickInputs.filters.get i =
      if time i ≤ run i then { accepted := some (s.pins.get i), runCount := 0 }
      else { accepted := some (s.acceptedLevel i), runCount := run i }) ∧
    (∀ w : Wheel,
      let count (o : Odometer) : Int := match w with | .left => o.left | .right => o.right
      let before := position (s.acceptedLevel (wheelPinA w)) (s.acceptedLevel (wheelPinB w))
      let after := position (s.tickInputs.acceptedLevel (wheelPinA w)) (s.tickInputs.acceptedLevel (wheelPinB w))
      count s.tickInputs.odo =
        count s.odo + (if after = before + 1 then 1 else if before = after + 1 then -1 else 0) ∧
      (after = before + 2 → flagSet s.tickInputs.causes .odoGlitch = true)) ∧
    ∀ sampled : State, sampled = s.withFilters sampled.filters →
      (∀ i : InputPin, sampled.filters.get i = { accepted := some (s.acceptedLevel i), runCount := run i }) →
      ((∀ i, ¬ taken i) → s.tickInputs = sampled) ∧
      ∀ e : EdgeInput, taken (edgePin e) → (∀ i, i ≠ edgePin e → ¬ taken i) →
        exec (match s.pins.get (edgePin e), e with
          | .high, .tagStb => .tagStrobe
          | .high, .markKey => .markPress
          | .low, e => .filteredFallingEdge e) sampled = .next s.tickInputs) ∧
  (∀ s : State,
    (s.ring.stall = some s.clock.timeBase → exec .headStall s = .next s.tickStall) ∧
    (s.ring.stall ≠ some s.clock.timeBase → s.tickStall = s)) ∧
  (∀ s : State,
    (∀ tag bytes cycles, s.link.agent = .headPass tag bytes cycles →
      let u := s.withLink { s.link with agent := .headPass tag bytes (cycles + 25) }
      (2170 * bytes.length ≤ cycles + 25 → exec .headPassDone u = .next s.tickHeadPass) ∧
      (cycles + 25 < 2170 * bytes.length → s.tickHeadPass = u)) ∧
    ((∀ tag bytes cycles, s.link.agent ≠ .headPass tag bytes cycles) → s.tickHeadPass = s)) ∧
  (∀ s : State,
    (∀ x : Transmission, s.link.tx = some x →
      let u := s.withLink { s.link with tx := some { x with sent := x.sent + 20 } }
      (x.frame.length + 1 ≤ x.sent + 20 → exec .frameTransmitted u = .next s.tickTransmit) ∧
      (x.sent + 20 < x.frame.length + 1 → s.tickTransmit = u)) ∧
    (s.link.tx = none → s.tickTransmit = s)) ∧
  ∀ s : State,
    (∀ r rest, s.link.requests = r :: rest → s.link.agent = .free → s.link.responses.length < 4 →
      exec (performingCommand (kindOf r.kind)) s = .next s.tickAgent) ∧
    (s.link.requests = [] ∨ s.link.agent ≠ .free ∨ 4 ≤ s.link.responses.length → s.tickAgent = s)

/-! ### Invariants -/

/-- The state after a power-on reset is a good one in every respect the invariants below name. -/
def Obligations.ResetIsGood : Prop :=
  State.reset.WithinCapacity ∧ State.reset.RunCoherent ∧ State.reset.EnvelopesCoherent ∧
    State.reset.AccumulatorInRange ∧ State.reset.EffectAdmitted ∧ State.reset.tracker.Owned ∧
    State.reset.tracker.Spans ∧ State.reset.tracker.Negative ∧ State.reset.CountsBelow ∧ State.reset.ProfilesCoherent

/-- No step makes a queue longer than its capacity: 64 event records, 4 requests, 4 response places, 8 adjusted ids listed,
512 route entries (R106, R153, R158, R166). The other sizes that statements name: 16 open intrusions, 4096 points, counts
stopping at 2^32 − 1, an accumulator of −2^48..2^48 − 1 (R78, R93, R160). -/
def Obligations.CapacityKept : Prop :=
  (∀ s t : State, s.WithinCapacity → step s = .next t → t.WithinCapacity) ∧
  (∀ s : State, s.WithinCapacity ↔ s.link.events.length ≤ 64 ∧ s.link.requests.length ≤ 4 ∧ s.link.placesTaken ≤ 4 ∧
    s.params.adjustedIds.length ≤ 8 ∧ s.route.entries.length ≤ 512) ∧
  Config.maxIntrusions = 16 ∧ Config.maxPoints = 4096 ∧ Config.top32 = 2 ^ 32 - 1 ∧
  ∀ s : State, s.AccumulatorInRange ↔ -2 ^ 48 ≤ s.odo.accumulator ∧ s.odo.accumulator ≤ 2 ^ 48 - 1

/-- Every step keeps the run state in agreement with the Ring Assembler, the stall timer, ALERT, the fault record, the
chainage at pause, the pending fix and the intrusion table (R6, R14, R85, R99, R135, R141); and the profile slots in
agreement with the open ring and the order of transmission: the open ring's slot FILLING and no other, the READY and
SENDING slots once each in the order, at most 4096 points (R157, R159, R160, R161). -/
def Obligations.RunCoherentKept : Prop :=
  (∀ s t : State, s.RunCoherent → step s = .next t → t.RunCoherent) ∧
  ∀ s t : State, s.RunCoherent → s.ProfilesCoherent → step s = .next t → t.ProfilesCoherent

/-- Every step keeps WAITING slots inside RUNNING, and CLEAN slots with equal copies (R38). -/
def Obligations.EnvelopesCoherentKept : Prop :=
  ∀ s t : State, s.EnvelopesCoherent → step s = .next t → t.EnvelopesCoherent

/-- Every step keeps the accumulator in −2^48..2^48 − 1, and every value in effect in its parameter's range or codes with
min_range below max_range (R21, R93, R149, R152). That report_enable in effect lies in 0..15 is the model's reading (log
entry 18). -/
def Obligations.ValuesInRangeKept : Prop :=
  (∀ s t : State, s.AccumulatorInRange → step s = .next t → t.AccumulatorInRange) ∧
  ∀ s t : State, s.EffectAdmitted → step s = .next t → t.EffectAdmitted

/-- Every step keeps the intrusion table in ascending number and within 16, every entry with the count of the sectors
it owns and at least one, and every owned sector with its owner open; the spans disjoint and kept apart by a free sector,
and every owned sector inside its owner's span; every peak clearance below zero; and the streak counts below m_on and
m_off (R57, R66, R68, R72, R76, R78). -/
def Obligations.OwnershipKept : Prop :=
  (∀ s t : State, s.tracker.Owned → step s = .next t → t.tracker.Owned) ∧
  (∀ s t : State, s.tracker.Owned → s.tracker.Spans → step s = .next t → t.tracker.Spans) ∧
  (∀ s t : State, s.EffectAdmitted → s.tracker.Negative → step s = .next t → t.tracker.Negative) ∧
  ∀ s t : State, s.CountsBelow → step s = .next t → t.CountsBelow

/-! ### Resets -/

/-- The Run Controller after a power-on reset (R145). -/
def Obligations.PowerOnRunController : Prop :=
  ∀ s : State, ∃ t, exec .powerOnReset s = .next t ∧
    t.ctrl = { run := .idle, faultRecord := none, startChainage := none, chainageAtPause := none } ∧
    t.eff Param.maxGap = 1000 ∧ t.link.events = [] ∧ ∀ c : Cause, flagSet t.causes c = false

/-- The Head Link Receiver and the Ring Assembler after a power-on reset (R18). -/
def Obligations.PowerOnHeadAndRing : Prop :=
  ∀ s : State, ∃ t, exec .powerOnReset s = .next t ∧
    t.head.lock = .searching ∧ t.head.goodRun = 0 ∧ t.head.badRun = 0 ∧ t.head.lastSeq = none ∧
    t.ring.asm = .inactive ∧ t.ring.ringSeq = 0 ∧ t.ring.discards = 0 ∧ t.ring.accepted = 0 ∧ t.ring.short = 0 ∧
    t.ring.long = 0 ∧ (t.ring.tMin, t.ring.tMax) = t.windowOf ∧ t.ring.tMin = 8750 ∧ t.ring.tMax = 11250 ∧
    t.ring.stall = none ∧ ∀ c : Cause, flagSet t.causes c = false

/-- The other blocks after a power-on reset, the time base 0 and no frame being sent (R46, R56, R86, R104, R128, R154,
R164, R176, §0.3). The model's choice: the head link holds no symbol lock (log entry 2), both receivers' counts of
consecutive symbols are 0 and no frame of either link is partly received (log entry 32), the count to the next
odometer update starts at 0 (log entry 25); and what POWER_ON_RESET keeps, the levels the outside drives at the pins,
the queue of commands and the index of free values (log entries 1, 4, 12, 26). -/
def Obligations.PowerOnOtherBlocks : Prop :=
  ∀ s : State, ∃ t, exec .powerOnReset s = .next t ∧
    (∀ (k : SlotId) (i : Sector), t.envelopes[k].live[i] = 0 ∧ t.envelopes[k].prepared[i] = 0 ∧
      t.envelopes[k].state = .clean) ∧
    (∀ i : Sector, t.tracker.sectors[i] = .clear ∧ t.tracker.accumulators[i] = .empty) ∧
    t.tracker.table = [] ∧ t.tracker.counter = 1 ∧ t.tracker.alert = false ∧
    t.odo.accumulator = 0 ∧ t.odo.direction = .forward ∧ t.odo.left = 0 ∧ t.odo.right = 0 ∧ t.odo.pendingFix = none ∧
    t.odo.spacingRef = none ∧ (∀ i : InputPin, (t.filters.get i).accepted = none ∧ (t.filters.get i).runCount = 0) ∧
    t.route.entries = [] ∧ t.route.current = none ∧ t.route.lastApplied = none ∧
    (∀ p : ParamId, t.params.image[p] = (paramRow p).default ∧ t.params.effect[p] = (paramRow p).default) ∧
    t.params.adjustedIds = [] ∧ t.params.further = 0 ∧ t.params.liveWaiting = false ∧
    t.link.up = false ∧ t.link.partFrame = none ∧ t.link.requests = [] ∧ t.link.responses = [] ∧
    t.link.events = [] ∧ t.link.agent = .free ∧ (∀ k : Fin 3, t.link.slots[k] = .free) ∧
    t.link.skipped = 0 ∧ t.link.madeReady = 0 ∧ t.link.runSkipped = 0 ∧ t.hcTxd = .high ∧
    t.clock.timeBase = 0 ∧ t.link.tx = none ∧ t.link.readyOrder = [] ∧
    t = { State.reset with pins := s.pins, freeIndex := s.freeIndex, pending := s.pending }

/-- A RESET request that takes effect, at the moment its response has been transmitted: the image, the live copies, the
route table, the link state and the time base are kept, every value in effect comes from the kept image, the adjusted list
is built anew, a partly received frame of either link is discarded, the rest takes its reset value (R19, R46, R86, R105, R128,
R146, R153, R154, R156, R164, R175, R181). The model's choice: report_enable in effect is the image value mod 16 (log entry
18); the head link's symbol lock stays (log entry 2), and so do the counts of consecutive symbols (log entry 23); with no
such response being sent the command changes nothing (log entry 5). -/
def Obligations.ResetTakesEffect : Prop :=
  ∀ s : State,
    (s.link.agent ≠ .resetWaiting ∨ s.link.tx = none → exec .resetTakesEffect s = .next s) ∧
    ∀ (x : Transmission) (r : Response) (rest : List Response), s.link.agent = .resetWaiting → s.link.tx = some x →
      x.source = .response → s.link.responses = r :: rest → r.kind = 0x7F → r.result = .done →
      let ids := (List.finRange 46).filter fun p => (adjusted s.params.image p).2
      ∃ t, exec .resetTakesEffect s = .next t ∧ exec .frameTransmitted s = .next t ∧
        t.params.image = s.params.image ∧ (∀ p : ParamId, t.params.effect[p] = (adjusted s.params.image p).1) ∧
        t.params.liveWaiting = false ∧ t.params.adjustedIds = (ids.map fun p => p.val + 1).take 8 ∧
        t.params.further = ids.length - 8 ∧
        (∀ k : SlotId, t.envelopes[k].live = s.envelopes[k].live ∧ t.envelopes[k].prepared = s.envelopes[k].live ∧
          t.envelopes[k].state = .clean) ∧
        t.route = { entries := s.route.entries, current := none, lastApplied := none } ∧
        t.link = { State.reset.link with sync := s.link.sync } ∧ t.link.up = s.link.up ∧ t.link.partFrame = none ∧
        t.link.requests = [] ∧ t.link.responses = [] ∧ t.link.events = [] ∧ t.link.agent = .free ∧
        t.clock = s.clock ∧ t.pins = s.pins ∧ t.filters = State.reset.filters ∧
        t.ctrl = State.reset.ctrl ∧ t.tracker = State.reset.tracker ∧ t.odo = State.reset.odo ∧
        t.head = { sync := s.head.sync, partFrame := none, lock := .searching, goodRun := 0, badRun := 0,
                   lastSeq := none } ∧
        (let period := t.effNat Param.revPeriod
         let width := period * 2 ^ t.effNat Param.revTolerance / 16
         t.ring = { State.reset.ring with tMin := period - width, tMax := period + width }) ∧
        ∀ c : Cause, flagSet t.causes c = false

/-! ### Head link -/

/-- Frames in SEARCHING: a good one raises the good-run count, sets the last sequence, and locks at the fourth; a bad one
sets the good-run count to 0; nothing else changes but what the receiver holds of symbols (R1, R2). The model's choice: the
commands carry symbols (log entries 8, 10), and every symbol that section 1.1 calls invalid, other control symbols among
them, ends a frame bad at once (log entry 33). -/
def Obligations.HeadFramesInSearching : Prop :=
  ∀ s : State, s.head.lock = .searching →
    (∀ (frame : List Byte) (seq : Byte) (f : HeadFrame), s.head.symbolLock = true → s.head.partFrame = none →
      parseHeadFrame frame = some (seq, f) →
      let h : HeadLink := { s.head with sync := s.head.sync.heard }
      exec (.headFrameGood (framed frame)) s = .next (s.withHead
        (if s.head.goodRun + 1 = 4 then { h with lock := .locked, goodRun := 0, badRun := 0, lastSeq := some seq }
         else { h with goodRun := s.head.goodRun + 1, lastSeq := some seq }))) ∧
    ∀ (symbols : List Symbol) (h : HeadLink), s.HearsBad symbols h →
      exec (.headFrameBad symbols) s = .next (s.withHead { h with goodRun := 0 })

/-- Bad frames in LOCKED: HEAD_FRAME_LOSS and the bad-run count; at the eighth SEARCHING, with HEAD_LOST and FAULT in
RUNNING, the records of fault entry among it, and HEAD_UNLOCKED otherwise (R1, R3, R140). The model's choice: the commands
carry symbols (log entries 8, 10), every symbol that section 1.1 calls invalid, other control symbols among them, ends a
frame bad at once (log entry 33), and log entries 18, 30 and 31 as the run is left. -/
def Obligations.HeadFramesBadInLocked : Prop :=
  ∀ (s : State) (symbols : List Symbol) (h : HeadLink), s.HearsBad symbols h → s.head.lock = .locked → s.room 2 →
    let unlocked : HeadLink := { h with lock := .searching, goodRun := 0, badRun := 0, lastSeq := none }
    (s.head.badRun + 1 < 8 → exec (.headFrameBad symbols) s =
      .next ((s.reported .headFrameLoss).withHead { h with badRun := s.head.badRun + 1 })) ∧
    (s.head.badRun = 7 → s.ctrl.run ≠ .running → exec (.headFrameBad symbols) s =
      .next (((s.reported .headFrameLoss).withHead unlocked).reported .headUnlocked)) ∧
    (s.head.badRun = 7 → s.ctrl.run = .running → ∃ t, exec (.headFrameBad symbols) s = .next t ∧ t.head = unlocked ∧
      t.ctrl.run = .fault ∧
      t.ctrl.faultRecord = some { cause := .headLost, ringSeq := s.ring.ringSeq, chainage := s.chainage } ∧
      t = { s with head := t.head, ring := t.ring, params := t.params, envelopes := t.envelopes, tracker := t.tracker,
                   odo := t.odo, ctrl := t.ctrl, link := t.link, causes := t.causes }) ∧
    (s.head.badRun = 7 → s.ctrl.run = .running → s.room (s.tracker.table.length + 6) →
      exec (.headFrameBad symbols) s =
        .next ((((s.reported .headFrameLoss).withHead unlocked).reported .headLost).faulted .headLost))

/-- Good frames in LOCKED. A SAMPLE_RUN with no ring open and a RING_START with the Ring Assembler INACTIVE are
ignored but for their sequence: the bad-run count 0, the last sequence set, HEAD_FRAME_LOSS exactly when the sequence
is not the expected one. A frame of any content that reveals a gap raises HEAD_FRAME_LOSS, adds the gap to the open
ring's frames missing, and then acts as a frame in sequence does (R3, R4, R7, R9, R11). The model's choice: the
command carries the frame's symbols (log entries 8, 10). -/
def Obligations.SampleRunWithNoRing : Prop :=
  ∀ (s : State) (frame : List Byte) (seq last : Byte) (f : HeadFrame),
    s.head.symbolLock = true → s.head.partFrame = none → s.head.lock = .locked → s.head.lastSeq = some last →
    parseHeadFrame frame = some (seq, f) → s.room 1 →
    let ignored : Result :=
      .next (if seq = last + 1 then s.counted seq else (s.counted seq).reported .headFrameLoss)
    (∀ a0 step xs, f = .sampleRun a0 step xs → (∀ r, s.ring.asm ≠ .opened r) →
      exec (.headFrameGood (framed frame)) s = ignored) ∧
    (∀ counter, f = .ringStart counter → s.ring.asm = .inactive →
      exec (.headFrameGood (framed frame)) s = ignored) ∧
    (seq ≠ last + 1 →
      let gap := (seq - (last + 1)).toNat
      let missed : State :=
        match s.ring.asm with
        | .opened r => s.withRing { s.ring with asm := .opened { r with
            framesMissing := max r.framesMissing (min 65535 (r.framesMissing + gap)) } }
        | _ => s
      exec (.headFrameGood (framed frame)) s = exec (.headFrameGood (framed frame))
        ((missed.reported .headFrameLoss).withHead { s.head with badRun := 0, lastSeq := some (seq - 1) }))

/-- A SAMPLE_RUN taken into the open ring, after a gap or without one: a gap raises HEAD_FRAME_LOSS and is added to
the frames missing; each sample raises the count of its class and the last angle is the last sample's; each valid
sample goes to its sector's accumulator, the counts stopping at 255 and the least clearance falling only to a
strictly lesser one; of the valid samples of a FILLING slot every stride-th is a point while fewer than 4096 are held
(R4, R7, R23, R24, R28, R33, R36, R48, R160). The model's choice: the command carries the frame's symbols (log
entries 8, 10). -/
def Obligations.SampleRunCounted : Prop :=
  ∀ (s : State) (r : RingContext) (frame : List Byte) (seq last : Byte) (a0 : BitVec 14) (stride : Byte)
    (xs : List Sample),
    s.head.symbolLock = true → s.head.partFrame = none → s.head.lock = .locked → s.head.lastSeq = some last →
    parseHeadFrame frame = some (seq, .sampleRun a0 stride xs) → s.ring.asm = .opened r → s.room 1 →
    r.valid ≤ Config.top32 → r.dropout ≤ Config.top32 → r.outOfWindow ≤ Config.top32 → r.framesMissing ≤ 65535 →
    let gap := (seq - (last + 1)).toNat
    let u := if gap = 0 then s.counted seq else (s.counted seq).reported .headFrameLoss
    let angle (j : Nat) : Nat := (((a0.toNat + j * stride.toNat) % 16384) + s.effNat Param.angleOffset) % 16384
    let range (x : Sample) : Int := correctedRange (rangeSum s x)
    let limit (i : Sector) : Int := match r.slot with | some k => (s.envelopes[k].live[i]).toNat | none => 0
    let valid : List (Sample × Nat) := xs.zipIdx.filter fun x => validity s x.1 = .valid
    ∃ t, exec (.headFrameGood (framed frame)) s = .next t ∧
      t.ring = { s.ring with asm := .opened { r with
        framesMissing := min 65535 (r.framesMissing + gap)
        valid := min Config.top32 (r.valid + xs.countP (fun x => validity s x = .valid))
        dropout := min Config.top32 (r.dropout + xs.countP (fun x => validity s x = .dropout))
        outOfWindow := min Config.top32 (r.outOfWindow + xs.countP (fun x => validity s x = .outOfWindow))
        lastAngle := some (angle (xs.length - 1)) } } ∧
      (∀ i : Sector,
        let hits := valid.filter fun x => angle x.2 / 64 = i.val
        let a := s.tracker.accumulators[i]
        let b := t.tracker.accumulators[i]
        b.valid = max a.valid (min 255 (a.valid + hits.length)) ∧
        b.infringing = max a.infringing (min 255 (a.infringing +
          hits.countP fun x => limit i ≠ 0 ∧ range x.1 < limit i)) ∧
        b.warning = max a.warning (min 255 (a.warning +
          hits.countP fun x => limit i ≠ 0 ∧ limit i ≤ range x.1 ∧ range x.1 - limit i < r.warnMargin)) ∧
        b.least = hits.foldl (fun l x =>
          let q : Least := { clearance := range x.1 - limit i, angle := angle x.2 }
          if limit i = 0 then l
          else match l with
            | none => some q
            | some m => if q.clearance < m.clearance then some q else some m) a.least) ∧
      (∀ k : Fin 3, r.profileSlot ≠ some k → t.link.slots[k] = s.link.slots[k]) ∧
      (∀ (k : Fin 3) (points : List Point) (n : Nat) (truncated : Bool), r.profileSlot = some k →
        s.link.slots[k] = .filling points n truncated → points.length ≤ 4096 →
        let chosen := (valid.zipIdx.filter fun x => (n + x.2) % r.stride = 0).map fun x =>
          (solve s r (angle x.1.2) x.1.1).point
        t.link.slots[k] = .filling (points ++ chosen.take (4096 - points.length)) (n + valid.length)
          (truncated || decide (4096 < points.length + chosen.length))) ∧
      t = { u with
              ring := t.ring
              tracker := { s.tracker with accumulators := t.tracker.accumulators }
              link := { u.link with slots := t.link.slots } }

/-- A RING_START in WAITING opens a ring: the ring sequence rises; then, in the order of R8, a waiting LIVE write is
taken; a pending fix is applied, with its clamp, the last applied entry and its FIX record; SPACING_WIDE; the segment
by the band or a plain lookup, with OFF_ROUTE; the profile claim or PROFILE_SKIP; then the WAITING slots live, the
accumulators empty, the stall timer restarted and the context filled (R8, R14, R42, R47, R98, R100, R101, R102, R115,
R116, R122, R159). The model's choice: the ring sequence is raised before the LIVE taking, so every record of the
opening carries the new one (log entry 15); report_enable in effect is the image value mod 16 (log entry 18); the
report_enable in effect when a parameter is adjusted decides the PARAM_ADJUSTED NOTICE of the LIVE taking that
changes it (log entry 31); the command carries the frame's symbols (log entries 8, 10). -/
def Obligations.RingOpens : Prop :=
  ∀ (s : State) (frame : List Byte) (seq : Byte) (counter : BitVec 16),
    s.Receives frame seq (.ringStart counter) → s.ring.asm = .waiting → s.room 6 →
    let number := if s.ring.ringSeq < Config.top32 then s.ring.ringSeq + 1 else s.ring.ringSeq
    let raised := (s.counted seq).withRing { s.ring with ringSeq := number }
    let live := if s.params.liveWaiting then raised.liveTaken else raised
    let fixed : State :=
      match s.odo.pendingFix with
      | none => live
      | some f =>
        let sum := s.odo.accumulator + f.offset * 131072
        let entry : Option (Nat × Nat) := match f.origin with | .tag i l => some (i, l) | .manual => none
        let moved := live.withOdo { s.odo with
          pendingFix := none, accumulator := max (-2 ^ 48) (min (2 ^ 48 - 1) sum) }
        let told := if sum < -2 ^ 48 ∨ 2 ^ 48 - 1 < sum then moved.reported .chainageLimit else moved
        (told.withRoute { s.route with lastApplied := entry.map (·.1) }).recorded (.fix
          { status := if entry.isSome then .applied else .manual, isTag := entry.isSome, capture := f.capture,
            reference := entry, offset := some f.offset, beforeAfter := some (s.chainage, moved.chainage) })
    let c := fixed.chainage
    let spacing := s.odo.spacingRef.map fun ref => (c - ref).natAbs
    let wide : Bool :=
      match spacing with
      | some d => decide (fixed.effNat Param.maxSpacing ≠ 0 ∧ fixed.effNat Param.maxSpacing < d)
      | none => false
    let spaced := if wide then fixed.reported .spacingWide else fixed
    let band : Prop :=
      match s.route.current with
      | none => ∀ b slot margin, s.route.entries.find? RouteEntry.isSegment = some (.segment b slot margin) →
          c ≤ b + s.eff Param.hysteresis
      | some i => ∃ a slot margin, s.route.entries[i]? = some (.segment a slot margin) ∧
          a - s.eff Param.hysteresis ≤ c ∧
          ∀ b next wider, (s.route.entries.drop (i + 1)).find? RouteEntry.isSegment = some (.segment b next wider) →
            c ≤ b + s.eff Param.hysteresis
    ∃ sel : Option Nat, (band → sel = s.route.current) ∧ (¬ band → sel = lookup s.route.entries c) ∧
      let routed := spaced.withRoute { spaced.route with current := sel }
      let chosen := if sel = none ∧ (number = 1 ∨ s.route.current ≠ none) then routed.reported .offRoute else routed
      let wanted : Bool := number % fixed.effNat Param.decimation = 0
      let free := (List.finRange 3).find? fun k => s.link.slots[k] = .free
      let claimed : State :=
        match wanted, free with
        | false, _ => chosen
        | true, some k => chosen.withLink { chosen.link with slots := s.link.slots.set k (.filling [] 0 false) }
        | true, none => (chosen.withLink { chosen.link with
            skipped := if s.link.skipped < 65535 then s.link.skipped + 1 else s.link.skipped
            runSkipped := if s.link.runSkipped < Config.top32 then s.link.runSkipped + 1
                          else s.link.runSkipped }).reported .profileSkip
      exec (.headFrameGood (framed frame)) s = .next { claimed with
        envelopes := s.waitingLive
        tracker := { s.tracker with accumulators := Vector.replicate 256 .empty }
        ring := { s.ring with
          ringSeq := number
          stall := some (s.clock.timeBase + BitVec.ofNat 32 (4 * s.effNat Param.revPeriod))
          asm := .opened
            { sequence := number, openTime := s.clock.timeBase, chainage := c, spacing := spacing
              direction := s.odo.direction, segment := sel
              slot := match sel.bind (s.route.entries[·]?) with | some (.segment _ slot _) => slot | _ => none
              warnMargin := match sel.bind (s.route.entries[·]?) with
                | some (.segment _ _ (some m)) => m
                | _ => fixed.effNat Param.warnMargin
              decimation := fixed.effNat Param.decimation, stride := 2 ^ fixed.effNat Param.pointStride
              profileSlot := if wanted then free else none
              heldMark := none, valid := 0, dropout := 0, outOfWindow := 0, framesMissing := 0, lastAngle := none
              spacedWide := wide, fixApplied := s.odo.pendingFix.isSome } } }

/-- A RING_START that closes an ACCEPTED ring: each sector's verdict by the first row that applies; the ring
summary's counts and least clearance over the judged sectors; the evaluation pass, which steps the sectors in
ascending number from the table with its strikes and notes cleared, then closes what owns no sector; the discard
count 0, the ACCEPTED counter raised, the ring's chainage the spacing reference, ALERT by the table, a FILLING slot
READY with the ring summary and its points; in the event queue what the pass gives, in order, then the MARK record
ACCEPTED. The same frame then opens the next ring as one in WAITING does (R11, R12, R51, R53, R54, R55, R74, R75,
R85, R101, R126, R161). The run goes on unless a record was lost. The model's choice: the order of those records (log
entry 14); the close is whole before the fatal cause of a lost record is taken (log entry 11); a profile without a
spacing draws a free value (log entry 12); the command carries the frame's symbols (log entries 8, 10). -/
def Obligations.RingAccepted : Prop :=
  ∀ (s : State) (r : RingContext) (frame : List Byte) (seq : Byte) (counter : BitVec 16),
    s.Receives frame seq (.ringStart counter) → s.ctrl.run = .running → s.ring.asm = .opened r →
    s.ring.tMin ≤ (s.clock.timeBase - r.openTime).toNat → (s.clock.timeBase - r.openTime).toNat ≤ s.ring.tMax →
    s.ring.accepted < Config.top32 → s.ring.ringSeq < Config.top32 →
    (∀ i : Sector, s.verdict r.slot i =
      (let a := s.tracker.accumulators[i]
       let limit : BitVec 16 := match r.slot with | some k => s.envelopes[k].live[i] | none => 0
       if limit = 0 then .unguarded
       else if a.valid < s.effNat Param.minValid then .unseen
       else if s.effNat Param.hitThreshold ≤ a.infringing then .infringe
       else if s.effNat Param.hitThreshold ≤ a.infringing + a.warning then .warn
       else .clear)) ∧
    (let sm := s.summary r.slot
     let judged (i : Sector) : Prop :=
       s.verdict r.slot i = .infringe ∨ s.verdict r.slot i = .warn ∨ s.verdict r.slot i = .clear
     sm.unguarded = (List.finRange 256).countP (fun i => s.verdict r.slot i = .unguarded) ∧
     sm.unseen = (List.finRange 256).countP (fun i => s.verdict r.slot i = .unseen) ∧
     sm.infringe = (List.finRange 256).countP (fun i => s.verdict r.slot i = .infringe) ∧
     sm.warn = (List.finRange 256).countP (fun i => s.verdict r.slot i = .warn) ∧
     sm.clear = (List.finRange 256).countP (fun i => s.verdict r.slot i = .clear) ∧
     (sm.least = none → ∀ i, judged i → s.tracker.accumulators[i].least = none) ∧
     ∀ l, sm.least = some l → ∃ i, judged i ∧ s.tracker.accumulators[i].least = some l ∧
       ∀ j m, judged j → s.tracker.accumulators[j].least = some m →
         l.clearance ≤ m.clearance ∧ (j < i → l.clearance < m.clearance)) ∧
    let env : PassEnv :=
      { chainage := r.chainage, sequence := r.sequence, slot := r.slot, mOn := s.effNat Param.mOn
        mOff := s.effNat Param.mOff, replace := s.eff Param.tablePolicy = 1 }
    let start : Pass :=
      { sectors := s.tracker.sectors, counter := s.tracker.counter, out := []
        table := s.tracker.table.map fun x => { x with struck := false, unguardedNote := false } }
    let pass : Pass := ((List.finRange 256).foldl
      (fun p i => p.step env (s.verdict r.slot i) s.tracker.accumulators[i].least i) start).finish env
    (s.room (pass.out.length + 1) →
      let evaluated : State := (s.withTracker { s.tracker with
        sectors := pass.sectors, table := pass.table, counter := pass.counter
        alert := !pass.table.isEmpty }).emitted pass.out
      let readied : State :=
        match r.profileSlot with
        | none => evaluated
        | some k =>
          match s.link.slots[k] with
          | .filling points _ truncated => { evaluated with
              freeIndex := if r.spacing = none then s.freeIndex + 1 else s.freeIndex
              link := { evaluated.link with
                slots := s.link.slots.set k (.ready
                  { ring := r, summary := s.summary r.slot, truncated := truncated, skipped := s.link.skipped
                    points := points, nextSegment := 0, spacingFill := Config.absentSpacing s.freeIndex })
                readyOrder := s.link.readyOrder ++ [k]
                skipped := 0
                madeReady := if s.link.madeReady < Config.top32 then s.link.madeReady + 1 else s.link.madeReady } }
          | _ => evaluated
      exec (.headFrameGood (framed frame)) s = exec (.headFrameGood (framed frame)) { readied.marked r .accepted with
        ring := { s.ring with asm := .waiting, discards := 0, accepted := s.ring.accepted + 1 }
        odo := { s.odo with spacingRef := some r.chainage } }) ∧
    ∃ t, exec (.headFrameGood (framed frame)) s = .next t ∧ t.ring.discards = 0 ∧ t.ring.accepted = s.ring.accepted + 1 ∧
      t.ring.short = s.ring.short ∧ t.ring.long = s.ring.long ∧ t.odo.spacingRef = some r.chainage ∧
      t.tracker.counter = pass.counter ∧
      (∀ (k : Fin 3) (points : List Point) (n : Nat) (truncated : Bool), r.profileSlot = some k →
        s.link.slots[k] = .filling points n truncated → ∃ p : Profile, t.link.slots[k] = .ready p ∧ p.ring = r ∧
          p.points = points ∧ p.summary = s.summary r.slot ∧ p.truncated = truncated ∧ p.skipped = s.link.skipped ∧
          p.nextSegment = 0) ∧
      (t.ctrl.run = .running → t.tracker.sectors = pass.sectors ∧ t.tracker.table = pass.table ∧
        (t.tracker.alert = true ↔ pass.table ≠ []) ∧
        ∃ r', t.ring.asm = .opened r' ∧ r'.sequence = s.ring.ringSeq + 1) ∧
      (t.ctrl.run ≠ .running → t.ctrl.run = .fault ∧ ∃ f, t.ctrl.faultRecord = some f ∧ f.cause = .eventLoss) ∧
      t = { s.counted seq with
              ring := t.ring, params := t.params, envelopes := t.envelopes, tracker := t.tracker, odo := t.odo
              route := t.route, ctrl := t.ctrl, link := t.link, causes := t.causes, freeIndex := t.freeIndex }

/-- A RING_START that closes a SHORT or LONG ring below the fourth discard in a row: its slot freed unsent, its held
mark recorded SHORT or LONG before RING_SHORT or RING_LONG is reported, its counter and the discard count raised, no
verdict reaching a sector, the spacing reference kept; then the frame opens the next ring as one in WAITING does. At
the fourth HEAD_UNSTABLE is reported, the run enters FAULT with its records, and no ring opens (R8, R11, R13, R50,
R101, R126, R140, R161, R178). The model's choice: log entries 18, 30 and 31 as the run is left, and the command
carries the frame's symbols (log entries 8, 10). -/
def Obligations.RingDiscarded : Prop :=
  ∀ (s : State) (r : RingContext) (frame : List Byte) (seq : Byte) (counter : BitVec 16) (tooLong : Bool),
    s.Receives frame seq (.ringStart counter) → s.ctrl.run = .running → s.ring.asm = .opened r →
    (if tooLong then s.ring.tMin ≤ s.ring.tMax ∧ s.ring.tMax < (s.clock.timeBase - r.openTime).toNat
     else (s.clock.timeBase - r.openTime).toNat < s.ring.tMin) →
    s.ring.short < Config.top32 → s.ring.long < Config.top32 → s.ring.ringSeq < Config.top32 → s.room 8 →
    let freed : State :=
      match r.profileSlot with
      | some k => s.withLink { s.link with slots := s.link.slots.set k .free }
      | none => s
    let closed : State :=
      ((freed.marked r (if tooLong then .long else .short)).reported (if tooLong then .ringLong else .ringShort)).withRing
        { s.ring with
          asm := .waiting, discards := s.ring.discards + 1
          short := s.ring.short + (if tooLong then 0 else 1), long := s.ring.long + (if tooLong then 1 else 0) }
    (s.ring.discards + 1 < 4 →
      exec (.headFrameGood (framed frame)) s = exec (.headFrameGood (framed frame)) closed) ∧
    (s.ring.discards = 3 → s.room (s.tracker.table.length + 6) → exec (.headFrameGood (framed frame)) s =
      .next (((closed.counted seq).reported .headUnstable).faulted .headUnstable)) ∧
    ∃ t, exec (.headFrameGood (framed frame)) s = .next t ∧ t.ring.discards = s.ring.discards + 1 ∧
      t.ring.short = s.ring.short + (if tooLong then 0 else 1) ∧ t.ring.long = s.ring.long + (if tooLong then 1 else 0) ∧
      t.ring.accepted = s.ring.accepted ∧ t.odo.spacingRef = s.odo.spacingRef ∧
      flagSet t.causes (if tooLong then .ringLong else .ringShort) = true ∧
      t = { s.counted seq with
              ring := t.ring, params := t.params, envelopes := t.envelopes, tracker := t.tracker, odo := t.odo
              route := t.route, ctrl := t.ctrl, link := t.link, causes := t.causes } ∧
      (s.ring.discards + 1 < 4 → t.ctrl.run = .running ∧ t.tracker.sectors = s.tracker.sectors ∧
        t.tracker.table = s.tracker.table ∧ t.tracker.counter = s.tracker.counter ∧
        ∃ r', t.ring.asm = .opened r' ∧ r'.sequence = s.ring.ringSeq + 1) ∧
      (s.ring.discards = 3 → t.ctrl.run = .fault ∧ t.ring.asm = .inactive ∧ t.ring.ringSeq = s.ring.ringSeq ∧
        t.ctrl.faultRecord = some { cause := .headUnstable, ringSeq := s.ring.ringSeq, chainage := s.chainage })

/-- A head note: a HEAD_NOTE record with the status bytes if head_notes is 1, nothing if it is 0; with the event
queue full the record is lost and EVENT_LOSS raised, recorded only in IDLE and FAULT and ending the run in RUNNING
and PAUSED (R142, R158, R174). The model's choice: the command carries the frame's symbols (log entries 8, 10). -/
def Obligations.HeadNoteQueuedOrLost : Prop :=
  ∀ (s : State) (frame : List Byte) (seq : Byte) (bytes : List Byte), s.Receives frame seq (.headStatus bytes) →
    (s.eff Param.headNotes = 1 → s.room 1 →
      exec (.headFrameGood (framed frame)) s = .next ((s.counted seq).recorded (.headNote bytes))) ∧
    (s.eff Param.headNotes ≠ 1 → exec (.headFrameGood (framed frame)) s = .next (s.counted seq)) ∧
    (s.eff Param.headNotes = 1 → ¬ s.room 1 → s.ctrl.run = .idle ∨ s.ctrl.run = .fault →
      exec (.headFrameGood (framed frame)) s = .next ((s.counted seq).withCauses (setFlag s.causes .eventLoss))) ∧
    (s.eff Param.headNotes = 1 → ¬ s.room 1 → s.ctrl.run = .running ∨ s.ctrl.run = .paused →
      ∃ t, exec (.headFrameGood (framed frame)) s = .next t ∧ t.ctrl.run = .fault ∧ t.link.events = s.link.events ∧
        t.ctrl.faultRecord = some { cause := .eventLoss, ringSeq := s.ring.ringSeq, chainage := s.chainage } ∧
        t = { s.counted seq with
                ring := t.ring, params := t.params, envelopes := t.envelopes, tracker := t.tracker, odo := t.odo
                ctrl := t.ctrl, link := t.link, causes := t.causes })

/-- HEAD_STALL in RUNNING: the run enters FAULT with the fault record set, the Ring Assembler INACTIVE, the timer
stopped, the table empty, every sector CLEAR, ALERT off, no fix pending; the open ring's slot freed, the WAITING
slots live, and in the event queue the NOTICE, MARK ABANDONED, FIX CANCELLED, the closes FAULT and the RUN_SUMMARY,
in that order (R14, R43, R84, R126, R134, R139, R140, R141, R178). The model's choice: with the timer stopped nothing
happens, the expiry is not compared with the time base (log entries 5, 6), the fault record names HEAD_STALL even
where its own NOTICE is lost (log entry 29), and log entries 18, 30 and 31 as the run is left. -/
def Obligations.HeadStallEndsRun : Prop :=
  ∀ s : State,
    (s.ring.stall.isSome = true → s.ctrl.run = .running → ∃ t, exec .headStall s = .next t ∧
      t.ctrl.run = .fault ∧
      t.ctrl.faultRecord = some { cause := .headStall, ringSeq := s.ring.ringSeq, chainage := s.chainage } ∧
      t.ring = { s.ring with asm := .inactive, stall := none } ∧ t.tracker.table = [] ∧
      (∀ i : Sector, t.tracker.sectors[i] = .clear) ∧ t.tracker.alert = false ∧
      t.odo = { s.odo with pendingFix := none } ∧ flagSet t.causes .headStall = true ∧
      t = { s with ring := t.ring, params := t.params, envelopes := t.envelopes, tracker := t.tracker, odo := t.odo,
                   ctrl := t.ctrl, link := t.link, causes := t.causes }) ∧
    (s.ring.stall.isSome = true → s.ctrl.run = .running → s.room (s.tracker.table.length + 5) →
      exec .headStall s = .next (((s.withRing { s.ring with stall := none }).reported .headStall).faulted .headStall)) ∧
    (s.ring.stall = none → exec .headStall s = .next s)

/-- Head link symbols. Symbol lock is gained with the third consecutive K28.5 and lost with the fourth consecutive invalid
symbol; without it no frame is received. A delimiter begins a frame, bytes join it until it has all of them, symbols outside
a frame are discarded. The loss of lock with a frame incomplete counts one bad frame, and as the eighth in LOCKED ends the
lock, with HEAD_LOST and FAULT in RUNNING and HEAD_UNLOCKED otherwise (R1, R2, R3, R140). The model's choice: the rows
carry symbols or stand for them (log entries 8, 10, 28), an idle symbol inside a frame is no byte of it and every invalid
symbol of section 1.1 ends the frame bad at once (log entry 33), HEAD_SYMBOL_LOCK with lock and HEAD_SYMBOL_LOCK_LOST
without it change nothing (log entry 5). -/
def Obligations.HeadSymbolLock : Prop :=
  ∀ s : State,
    let hears (h : HeadLink) : Result := .next (s.withHead h)
    let lost : List Symbol := [.invalid, .invalid, .invalid, .invalid]
    let off : HeadLink := { s.head with sync := { held := false, idles := 0, invalids := 0 }, partFrame := none }
    s.head.symbolLock = s.head.sync.held ∧
    (∀ xs, exec (.headFrameBad xs) s = exec (.headFrameGood xs) s) ∧
    exec (.headFrameGood []) s = .next s ∧
    (∀ xs ys u, exec (.headFrameGood xs) s = .next u →
      exec (.headFrameGood (xs ++ ys)) s = exec (.headFrameGood ys) u) ∧
    (s.head.symbolLock = false →
      (∀ x : Symbol, x ≠ .idle → exec (.headFrameGood [x]) s =
        hears { s.head with sync := { s.head.sync with idles := 0 } }) ∧
      (s.head.sync.idles < 2 → exec (.headFrameGood [.idle]) s =
        hears { s.head with sync := { s.head.sync with idles := s.head.sync.idles + 1 } }) ∧
      (2 ≤ s.head.sync.idles → exec (.headFrameGood [.idle]) s =
        hears { s.head with sync := { held := true, idles := 0, invalids := 0 } }) ∧
      exec .headSymbolLock s = hears { s.head with sync := { held := true, idles := 0, invalids := 0 } } ∧
      ∀ xs, exec (.headSymbolLockLost xs) s = .next s) ∧
    (s.head.symbolLock = true →
      exec .headSymbolLock s = .next s ∧
      (∀ xs, exec (.headSymbolLockLost xs) s = exec (.headFrameGood xs) s) ∧
      (s.head.partFrame = none →
        exec (.headFrameGood [.delimiter]) s =
          hears { s.head with sync := s.head.sync.heard, partFrame := some [] } ∧
        exec (.headFrameGood [.idle]) s = hears { s.head with sync := s.head.sync.heard } ∧
        (∀ b, exec (.headFrameGood [.data b]) s = hears { s.head with sync := s.head.sync.heard }) ∧
        (s.head.sync.invalids < 3 → exec (.headFrameGood [.invalid]) s =
          hears { s.head with sync := { s.head.sync with invalids := s.head.sync.invalids + 1 } }) ∧
        exec (.headSymbolLockLost lost) s = hears off) ∧
      ∀ part, s.head.partFrame = some part →
        (∀ b, headFrameWhole (part ++ [b]) = false → exec (.headFrameGood [.data b]) s =
          hears { s.head with sync := s.head.sync.heard, partFrame := some (part ++ [b]) }) ∧
        exec (.headFrameGood [.idle]) s = hears { s.head with sync := s.head.sync.heard } ∧
        (s.head.lock = .searching → exec (.headSymbolLockLost lost) s = hears { off with goodRun := 0 }) ∧
        (s.head.lock = .locked → s.head.badRun + 1 < 8 → s.room 1 → exec (.headSymbolLockLost lost) s =
          .next ((s.reported .headFrameLoss).withHead { off with badRun := s.head.badRun + 1 })) ∧
        (s.head.lock = .locked → s.head.badRun = 7 → s.room 2 → s.ctrl.run ≠ .running →
          exec (.headSymbolLockLost lost) s = .next (((s.reported .headFrameLoss).reported .headUnlocked).withHead
            { off with lock := .searching, goodRun := 0, badRun := 0, lastSeq := none })) ∧
        (s.head.lock = .locked → s.head.badRun = 7 → s.room 2 → s.ctrl.run = .running →
          ∃ t, exec (.headSymbolLockLost lost) s = .next t ∧
            t.head = { off with lock := .searching, goodRun := 0, badRun := 0, lastSeq := none } ∧
            t.ctrl.run = .fault ∧
            t.ctrl.faultRecord = some { cause := .headLost, ringSeq := s.ring.ringSeq, chainage := s.chainage } ∧
            t = { s with head := t.head, ring := t.ring, params := t.params, envelopes := t.envelopes
                         tracker := t.tracker, odo := t.odo, ctrl := t.ctrl, link := t.link, causes := t.causes }))

/-! ### Inputs and Odometer -/

/-- The odometer update: both interval counts read and set to 0, the advance by wheel_mode and the slip test, the sum
clamped with CHAINAGE_LIMIT, ODO_SLIP on the slip rows, the direction by the advance, the spacing reference kept, and the
pending fix too unless a lost record ends the run, which cancels it; the chainage is the accumulator divided by 131072,
rounded down (R90, R92, R93, R94, R95, R97, R99, R142). The model's choice: the command acts whatever the time base says
(log entry 6), and ODO_SLIP is raised before the advance is added, CHAINAGE_LIMIT after (log entry 17). -/
def Obligations.OdometerUpdate : Prop :=
  ∀ s : State, ∃ t, exec .odometerUpdate s = .next t ∧
    let sign : Int := if s.eff Param.forwardSign = 1 then -1 else 1
    let dL := sign * s.odo.left
    let dR := sign * s.odo.right
    let k := s.eff Param.wheelConstant
    let both := s.eff Param.wheelMode ≠ 1 ∧ s.eff Param.wheelMode ≠ 2
    let slips := both ∧ s.eff Param.slipTolerance < |dL - dR|
    let adv : Int :=
      if s.eff Param.wheelMode = 1 then 2 * dL * k
      else if s.eff Param.wheelMode = 2 then 2 * dR * k
      else if |dL - dR| ≤ s.eff Param.slipTolerance then (dL + dR) * k
      else if |dL| ≤ |dR| then 2 * dL * k
      else 2 * dR * k
    let sum := s.odo.accumulator + adv
    t.odo.left = 0 ∧ t.odo.right = 0 ∧ t.odo.spacingRef = s.odo.spacingRef ∧
      t.odo.accumulator = max (-2 ^ 48) (min (2 ^ 48 - 1) sum) ∧
      t.odo.direction = (if 0 < adv then .forward else if adv < 0 then .reverse else s.odo.direction) ∧
      (slips → flagSet t.causes .odoSlip = true) ∧
      (sum < -2 ^ 48 ∨ 2 ^ 48 - 1 < sum → flagSet t.causes .chainageLimit = true) ∧
      t.odo.pendingFix = (if t.ctrl.run = s.ctrl.run then s.odo.pendingFix else none) ∧
      (¬ slips → -2 ^ 48 ≤ sum → sum ≤ 2 ^ 48 - 1 → t = s.withOdo t.odo) ∧
      (s.room 2 →
        let moved := State.withOdo (if slips then s.reported .odoSlip else s) t.odo
        t = if sum < -2 ^ 48 ∨ 2 ^ 48 - 1 < sum then moved.reported .chainageLimit else moved) ∧
      (s.chainage * 131072 ≤ s.odo.accumulator ∧ s.odo.accumulator < (s.chainage + 1) * 131072) ∧
      t = { s with ring := t.ring, params := t.params, envelopes := t.envelopes, tracker := t.tracker, odo := t.odo
                   ctrl := t.ctrl, link := t.link, causes := t.causes }

/-- A decoder move: one position forward adds one to the wheel's interval count, one back takes one away, two raise
ODO_GLITCH and count nothing; the decoder then holds the new levels. Forward the A input leads: both low, A high, both
high, B high (R89, section 5.2). The model's choice (log entries 6, 20): the raw levels follow too, and a decoder with no
sample yet holds the present levels. -/
def Obligations.WheelDecode : Prop :=
  ∀ (s : State) (w : Wheel) (a b : Level),
    let held := (s.acceptLevel (wheelPinA w) a).acceptLevel (wheelPinB w) b
    let before := position (s.acceptedLevel (wheelPinA w)) (s.acceptedLevel (wheelPinB w))
    let after := position a b
    position .low .low = 0 ∧ position .high .low = 1 ∧ position .high .high = 2 ∧ position .low .high = 3 ∧
    wheelPinA w = (match w with | .left => .whlA | .right => .whrA) ∧
    wheelPinB w = (match w with | .left => .whlB | .right => .whrB) ∧
    (∀ i : InputPin, s.acceptedLevel i = ((s.filters.get i).accepted).getD (s.pins.get i)) ∧
    held.acceptedLevel (wheelPinA w) = a ∧ held.acceptedLevel (wheelPinB w) = b ∧
    held = { s with pins := held.pins, filters := held.filters } ∧
    (after = before + 1 → exec (.wheelDecode w a b) s = .next (held.withOdo
      (match w with
       | .left => { s.odo with left := s.odo.left + 1 }
       | .right => { s.odo with right := s.odo.right + 1 }))) ∧
    (before = after + 1 → exec (.wheelDecode w a b) s = .next (held.withOdo
      (match w with
       | .left => { s.odo with left := s.odo.left - 1 }
       | .right => { s.odo with right := s.odo.right - 1 }))) ∧
    (after = before → exec (.wheelDecode w a b) s = .next held) ∧
    (after = before + 2 → s.room 1 → exec (.wheelDecode w a b) s = .next (held.reported .odoGlitch))

/-- A strobe in RUNNING or PAUSED whose nearest REFERENCE within match_window (the lower index among equals) is neither
the pending fix's nor the last applied one: a TAG fix is placed, and one it replaces is recorded SUPERSEDED (R97, R118,
R119, R123). The model's choice (log entry 6): the raw and accepted levels become high. -/
def Obligations.TagStrobePlacesFix : Prop :=
  ∀ (s : State) (i : Nat) (c : Int) (label : Nat),
    s.ctrl.run = .running ∨ s.ctrl.run = .paused → s.route.entries[i]? = some (.reference c label) →
    (c - s.chainage).natAbs ≤ s.effNat Param.matchWindow →
    (∀ (j : Nat) (c' : Int) (l' : Nat), s.route.entries[j]? = some (.reference c' l') → j ≠ i →
      (c - s.chainage).natAbs < (c' - s.chainage).natAbs ∨
        ((c - s.chainage).natAbs = (c' - s.chainage).natAbs ∧ i < j)) →
    s.route.lastApplied ≠ some i → s.room 1 →
    let held := s.acceptLevel .tagStb .high
    let fix : Fix := { offset := c - s.chainage, origin := .tag i label, capture := s.chainage }
    (s.odo.pendingFix = none →
      exec .tagStrobe s = .next (held.withOdo { s.odo with pendingFix := some fix })) ∧
    ∀ old : Fix, s.odo.pendingFix = some old → (∀ l, old.origin ≠ .tag i l) →
      exec .tagStrobe s = .next ((held.withOdo { s.odo with pendingFix := some fix }).recorded (.fix
        { status := .superseded, capture := old.capture, offset := some old.offset, beforeAfter := none,
          isTag := (match old.origin with | .tag _ _ => true | .manual => false),
          reference := (match old.origin with | .tag k l => some (k, l) | .manual => none) }))

/-- A strobe in IDLE and FAULT does nothing; one with no REFERENCE within match_window gives a FIX record UNMATCHED and
raises UNMATCHED_TAG; one whose nearest, the lower index among equals, is the pending fix's entry or the last applied one
gives a FIX record REPEAT (R118, R119, R120). The model's choice (log entry 6): the raw and accepted levels become high. -/
def Obligations.TagStrobeWithoutFix : Prop :=
  ∀ s : State,
    let held := s.acceptLevel .tagStb .high
    (s.ctrl.run = .idle ∨ s.ctrl.run = .fault → exec .tagStrobe s = .next held) ∧
    (s.ctrl.run = .running ∨ s.ctrl.run = .paused → s.room 2 →
      (∀ (j : Nat) (c : Int) (l : Nat), s.route.entries[j]? = some (.reference c l) →
        s.effNat Param.matchWindow < (c - s.chainage).natAbs) →
      exec .tagStrobe s = .next ((held.recorded (.fix
        { status := .unmatched, isTag := true, capture := s.chainage, reference := none, offset := none,
          beforeAfter := none })).reported .unmatchedTag)) ∧
    ∀ (c : Int) (label : Nat) (i : Nat), s.ctrl.run = .running ∨ s.ctrl.run = .paused → s.room 1 →
      (s.route.lastApplied = some i ∨ ∃ f l, s.odo.pendingFix = some f ∧ f.origin = .tag i l) →
      s.route.entries[i]? = some (.reference c label) → (c - s.chainage).natAbs ≤ s.effNat Param.matchWindow →
      (∀ (j : Nat) (c' : Int) (l' : Nat), s.route.entries[j]? = some (.reference c' l') → j ≠ i →
        (c - s.chainage).natAbs < (c' - s.chainage).natAbs ∨
          ((c - s.chainage).natAbs = (c' - s.chainage).natAbs ∧ i < j)) →
      exec .tagStrobe s = .next (held.recorded (.fix
        { status := .repeated, isTag := true, capture := s.chainage, reference := some (i, label), offset := none,
          beforeAfter := none }))

/-- A mark press: in RUNNING with a ring OPEN it fills or updates the held mark; in every other case it is ignored
(R125). The model's choice (log entry 6): the raw and accepted levels become high. -/
def Obligations.MarkPress : Prop :=
  ∀ s : State,
    let held := s.acceptLevel .markKey .high
    (∀ r : RingContext, s.ring.asm = .opened r → s.ctrl.run = .running →
      let mark : HeldMark :=
        match r.heldMark with
        | none => { chainage := s.chainage, ringSeq := r.sequence, angle := r.lastAngle, merged := 1 }
        | some m => { chainage := s.chainage, ringSeq := m.ringSeq, angle := r.lastAngle,
                      merged := if m.merged < 255 then m.merged + 1 else m.merged }
      exec .markPress s = .next (held.withRing { s.ring with asm := .opened { r with heldMark := some mark } })) ∧
    (s.openRing = none ∨ s.ctrl.run ≠ .running → exec .markPress s = .next held) ∧
    ∀ r : RingContext, s.openRing = some r ↔ s.ring.asm = .opened r

/-- A falling edge of the strobe or the key sets the accepted level low and does nothing else; a level change sets
the raw level (R87, R117). The model's choice: a level change leaves the run counts, which move at the samples alone
(log entry 24); a falling edge sets the raw level low too (log entry 6), and changes nothing if the accepted level is
low (log entry 5). -/
def Obligations.InputEdges : Prop :=
  ∀ s : State,
    (∀ e : EdgeInput, edgePin e = (match e with | .tagStb => .tagStb | .markKey => .markKey) ∧
      (s.acceptedLevel (edgePin e) = .low → exec (.filteredFallingEdge e) s = .next s) ∧
      (s.acceptedLevel (edgePin e) = .high → ∃ t, exec (.filteredFallingEdge e) s = .next t ∧
        t.pins.get (edgePin e) = .low ∧ t.filters.get (edgePin e) = { accepted := some .low, runCount := 0 } ∧
        t = { s with pins := t.pins, filters := t.filters } ∧
        ∀ j : InputPin, j ≠ edgePin e → t.pins.get j = s.pins.get j ∧ t.filters.get j = s.filters.get j)) ∧
    ∀ (i : InputPin) (v : Level), ∃ t, exec (.inputLevelChange i v) s = .next t ∧ t.pins.get i = v ∧
      t = { s with pins := t.pins } ∧ ∀ j : InputPin, j ≠ i → t.pins.get j = s.pins.get j

/-! ### Requests refused -/

/-- The request kinds by their codes and the commands that perform them (section 12.3). A request whose kind names no
request is refused with UNKNOWN_KIND and raises REQ_UNKNOWN; one whose length does not match is refused with BAD_LENGTH and
raises REQ_LENGTH; nothing else changes (R39, R41, R45, R107, R109, R110, R121, R130,
R148, R149, R167, R168). -/
def Obligations.UnknownKindAndBadLength : Prop :=
  (∀ k : RequestKind, (k, k.code, performingCommand (some k)) ∈ ([
    (.identify, 0x01, .identify), (.readStatus, 0x02, .readStatus), (.clearCauses, 0x03, .clearCauses),
    (.setParam, 0x10, .setParam), (.getParam, 0x11, .getParam), (.loadEnvelope, 0x20, .loadEnvelope),
    (.commitEnvelope, 0x21, .commitEnvelope), (.readEnvelope, 0x22, .readEnvelope), (.loadRoute, 0x30, .loadRoute),
    (.trimRoute, 0x31, .trimRoute), (.readRoute, 0x32, .readRoute), (.start, 0x40, .start), (.pause, 0x41, .pause),
    (.resume, 0x42, .resume), (.stop, 0x43, .stop), (.clearFault, 0x44, .clearFault), (.fixChainage, 0x45, .fixChainage),
    (.readIntrusions, 0x50, .readIntrusions), (.headPass, 0x60, .headPass), (.reset, 0x7F, .reset)]
      : List (RequestKind × Byte × Instr))) ∧
  performingCommand none = .unknownKind ∧
  (∀ (b : Byte) (k : RequestKind), kindOf b = some k ↔ b = k.code) ∧
  (∀ (s : State) (r : Request) (rest : List Request), s.link.requests = r :: rest →
    (∀ k : RequestKind, r.kind ≠ k.code) → s.link.agent = .free → s.link.responses.length < 4 → s.room 1 →
    exec .unknownKind s = .next ((s.reported .reqUnknown).answered rest (refusedTo r .unknownKind []))) ∧
  ∀ (s : State) (k : RequestKind) (r : Request) (rest : List Request), s.Offers k r rest → s.room 1 →
    ¬ k.legalLength r.payload.length →
    exec (performingCommand (some k)) s = .next ((s.reported .reqLength).answered rest (refusedTo r .badLength []))

/-- A request from a run state that refuses it is answered REFUSED with WRONG_STATE, raises REQ_STATE and changes nothing
else (R107, R109, R121, R130, R168). -/
def Obligations.WrongStateRefused : Prop :=
  ∀ (s : State) (k : RequestKind) (r : Request) (rest : List Request), s.Offers k r rest → s.room 1 →
    k.legalLength r.payload.length → k.refusedIn s.ctrl.run →
    exec (performingCommand (some k)) s = .next ((s.reported .reqState).answered rest (refusedTo r .wrongState []))

/-- An id, slot, copy, count, length or index out of range is refused with OUT_OF_RANGE, raises REQ_RANGE and changes
nothing else; a LOAD_ROUTE refused on its index carries the first index, one refused on an entry's kind, slot or warn
margin the index that entry would have taken (R39, R41, R45, R107, R109, R110, R148, R149, R168). -/
def Obligations.OutOfRangeRefused : Prop :=
  ∀ (s : State) (r : Request) (rest : List Request), s.room 1 →
    let answer (index : List Byte) : Result :=
      .next ((s.reported .reqRange).answered rest (refusedTo r .outOfRange index))
    (∀ id v0 v1 v2 v3 : Byte, s.Offers .setParam r rest → r.payload = [id, v0, v1, v2, v3] →
      id.toNat = 0 ∨ 46 < id.toNat → exec .setParam s = answer []) ∧
    (∀ id : Byte, s.Offers .getParam r rest → r.payload = [id] → id.toNat = 0 ∨ 46 < id.toNat →
      exec .getParam s = answer []) ∧
    (∀ (slot first : Byte) (limits : List Byte), s.Offers .loadEnvelope r rest → r.payload = slot :: first :: limits →
      RequestKind.loadEnvelope.legalLength r.payload.length → 8 ≤ slot.toNat → exec .loadEnvelope s = answer []) ∧
    (∀ slot : Byte, s.Offers .commitEnvelope r rest → r.payload = [slot] → 8 ≤ slot.toNat →
      exec .commitEnvelope s = answer []) ∧
    (∀ slot copy first count : Byte, s.Offers .readEnvelope r rest → r.payload = [slot, copy, first, count] →
      8 ≤ slot.toNat ∨ 2 ≤ copy.toNat ∨ count.toNat = 0 ∨ 64 < count.toNat → exec .readEnvelope s = answer []) ∧
    (∀ n0 n1 : Byte, s.Offers .trimRoute r rest → r.payload = [n0, n1] →
      s.ctrl.run = .idle ∨ s.ctrl.run = .fault → s.route.entries.length < n0.toNat + 256 * n1.toNat →
      exec .trimRoute s = answer []) ∧
    (∀ f0 f1 count : Byte, s.Offers .readRoute r rest → r.payload = [f0, f1, count] →
      s.route.entries.length < f0.toNat + 256 * f1.toNat ∨ count.toNat = 0 ∨ 32 < count.toNat →
      exec .readRoute s = answer []) ∧
    ∀ (f0 f1 : Byte) (body : List Byte), s.Offers .loadRoute r rest → r.payload = f0 :: f1 :: body →
      RequestKind.loadRoute.legalLength r.payload.length → s.ctrl.run = .idle ∨ s.ctrl.run = .fault →
      let f := f0.toNat + 256 * f1.toNat
      (s.route.entries.length < f ∨ 512 < f + body.length / 8 → exec .loadRoute s = answer [f0, f1]) ∧
      (f ≤ s.route.entries.length → f + body.length / 8 ≤ 512 →
        let field (k j : Nat) : Nat := (body.getD (8 * k + j) 0).toNat
        let margin (k : Nat) : Nat := field k 2 + 256 * field k 3
        let illegal (k : Nat) : Prop :=
          2 ≤ field k 0 ∨ (field k 0 = 0 ∧
            ((8 ≤ field k 1 ∧ field k 1 ≠ 255) ∨ (4095 < margin k ∧ margin k ≠ 65535)))
        ∀ k, k < body.length / 8 → illegal k → (∀ j < k, ¬ illegal j) →
          exec .loadRoute s = answer (leBytes 2 (f + k)))

/-! ### Requests of the Management Agent -/

/-- IDENTIFY (R169). -/
def Obligations.IdentifyAnswers : Prop :=
  ∀ (s : State) (r : Request) (rest : List Request), s.Offers .identify r rest →
    (r.payload = [] → exec .identify s = .next (s.answered rest (doneTo r
      ([0x54, 0x51, 0x34, 0x38] ++ [1] ++ [8] ++ leBytes 2 512 ++ [16] ++ [64] ++ [3])))) ∧
    (r.payload ≠ [] → s.room 1 →
      exec .identify s = .next ((s.reported .reqLength).answered rest (refusedTo r .badLength [])))

/-- READ_STATUS answers the run state, lock state, ring sequence, chainage, direction, current segment and its slot, open
intrusions, cause set, fault record, adjusted list and occupancies, in the codes and bytes of the layout, and changes
nothing else (R170, section 12.3). -/
def Obligations.ReadStatusAnswers : Prop :=
  ∀ (s : State) (r : Request) (rest : List Request), s.Offers .readStatus r rest → r.payload = [] →
    let run : Byte := match s.ctrl.run with | .idle => 0 | .running => 1 | .paused => 2 | .fault => 3
    let lock : Byte := match s.head.lock with | .searching => 0 | .locked => 1
    let direction : Byte := match s.odo.direction with | .forward => 0 | .reverse => 1
    let slot : Byte :=
      match s.route.current.bind (s.route.entries[·]?) with
      | some (.segment _ (some k) _) => BitVec.ofNat 8 k.val
      | _ => 0xFF
    let occupied := ([0, 1, 2] : List (Fin 3)).countP fun k => s.link.slots[k] ≠ .free
    exec .readStatus s = .next (s.answered rest (doneTo r
      ([run, lock] ++ leBytes 4 s.ring.ringSeq ++ leSigned 4 s.chainage ++ [direction] ++
        leBytes 2 (s.route.current.getD 0xFFFF) ++ [slot] ++
        [BitVec.ofNat 8 s.tracker.table.length] ++ leBytes 4 s.causes.toNat ++
        (match s.ctrl.faultRecord with
         | some f => [BitVec.ofNat 8 f.cause.bit] ++ leBytes 4 f.ringSeq ++ leSigned 4 f.chainage
         | none => [0xFF, 0, 0, 0, 0, 0, 0, 0, 0]) ++
        [BitVec.ofNat 8 s.params.adjustedIds.length] ++
        (s.params.adjustedIds.map (BitVec.ofNat 8) ++ [0, 0, 0, 0, 0, 0, 0, 0]).take 8 ++
        [BitVec.ofNat 8 s.params.further, BitVec.ofNat 8 rest.length, BitVec.ofNat 8 s.link.responses.length,
         BitVec.ofNat 8 s.link.events.length, BitVec.ofNat 8 occupied])))

/-- The twenty-five causes: the bit of each in the cause set, in order from 0, and its class; the setting of a flag sets
that one alone; a class is enabled by its bit of report_enable in effect. CLEAR_CAUSES clears exactly the flags named and
answers the set as it stands after (R171, R177, R178, R180, section 11.1, section 12.3). -/
def Obligations.ClearCausesClears : Prop :=
  ([.headFrameLoss, .odoSlip, .odoGlitch, .profileSkip, .paramAdjusted, .ringShort, .ringLong, .spacingWide, .offRoute,
    .unmatchedTag, .tableFull, .chainageLimit, .headUnlocked, .headStall, .headUnstable, .headLost, .eventLoss, .reqCheck,
    .reqUnknown, .reqLength, .reqState, .reqRange, .reqBusy, .reqRoute, .reqCommit] : List Cause).map Cause.bit =
      List.range 25 ∧
  (∀ c : Cause, c.bit < 25 ∧ c.cls =
    (if c.bit ≤ 3 then .correctable else if c.bit ≤ 12 then .nonfatal else if c.bit ≤ 16 then .fatal else .refused)) ∧
  (∀ (causes : BitVec 25) (c : Cause), flagSet causes c = causes.toNat.testBit c.bit ∧
    ∀ d : Cause, flagSet (setFlag causes c) d = (flagSet causes d || d == c)) ∧
  (∀ (s : State) (k : CauseClass), s.reports k = (s.eff Param.reportEnable).toNat.testBit
    (match k with | .correctable => 0 | .nonfatal => 1 | .fatal => 2 | .refused => 3)) ∧
  ∀ (s : State) (r : Request) (rest : List Request) (b0 b1 b2 b3 : Byte), s.Offers .clearCauses r rest →
    r.payload = [b0, b1, b2, b3] → ∃ t, exec .clearCauses s = .next t ∧
      t = (s.withCauses t.causes).answered rest (doneTo r (leBytes 4 t.causes.toNat)) ∧
      ∀ c : Cause, flagSet t.causes c =
        (flagSet s.causes c &&
          !(b0.toNat + 256 * b1.toNat + 65536 * b2.toNat + 16777216 * b3.toNat).testBit c.bit)

/-- READ_INTRUSIONS answers the count and every entry of the table, owned sectors included, and changes nothing else
(R172). -/
def Obligations.ReadIntrusionsAnswers : Prop :=
  ∀ (s : State) (r : Request) (rest : List Request), s.Offers .readIntrusions r rest → r.payload = [] →
    exec .readIntrusions s = .next (s.answered rest (doneTo r
      (BitVec.ofNat 8 s.tracker.table.length :: s.tracker.table.flatMap fun x =>
        leBytes 4 x.number ++ [BitVec.ofNat 8 x.first.val] ++ leBytes 2 x.span ++ leSigned 4 x.openChainage ++
          leBytes 4 x.openRing ++ leSigned 4 x.peakClearance ++ leBytes 2 x.peakAngle ++ leSigned 4 x.peakChainage ++
          leBytes 4 x.peakRing ++ leBytes 2 x.confirmedRings ++
          [match x.slotAtOpen with | some k => BitVec.ofNat 8 k.val | none => 0xFF] ++
          [if x.late then 1 else 0] ++ leBytes 2 x.owned)))

/-- HEAD_PASS holds the Agent with its bytes and no response; HEAD_PASS_DONE answers DONE and frees the Agent; on HC_TXD
each byte is a low start bit, eight data bits least significant first and a high stop bit of 217 cycles each, with no idle
time between bytes, and the line is high when the Agent is free (R173, R176). The model's choice (log entry 6):
HEAD_PASS_DONE does not count cycles. -/
def Obligations.HeadPassAnswers : Prop :=
  (∀ (s : State) (r : Request) (rest : List Request), s.Offers .headPass r rest →
    1 ≤ r.payload.length → r.payload.length ≤ 32 →
    exec .headPass s = .next (s.withLink { s.link with requests := rest, agent := .headPass r.tag r.payload 0 })) ∧
  (∀ (s : State) (tag : Byte) (bytes : List Byte) (cycles : Nat), s.link.agent = .headPass tag bytes cycles →
    exec .headPassDone s = .next (s.withLink { s.link with
      agent := .free
      responses := s.link.responses ++
        [{ tag := tag, kind := 0x60, result := .done, reason := none, payload := [] }] })) ∧
  (∀ (s : State) (tag : Byte) (bytes : List Byte) (i k j : Nat) (h : i < bytes.length), k < 10 → j < 217 →
    s.link.agent = .headPass tag bytes ((10 * i + k) * 217 + j) →
    s.hcTxd = (if k = 0 then .low else if k = 9 then .high
               else if (bytes[i]).getLsbD (k - 1) then .high else .low)) ∧
  ∀ s : State, s.link.agent = .free → s.hcTxd = .high

/-- RESET is answered DONE and the Agent performs no further request until the reset takes effect (R175). The model's
choice: a performing command then changes nothing and answers a next state (log entry 5). -/
def Obligations.ResetRequestHolds : Prop :=
  (∀ (s : State) (r : Request) (rest : List Request), s.Offers .reset r rest → r.payload = [] →
    exec .reset s = .next (s.withLink { s.link with
      requests := rest, responses := s.link.responses ++ [doneTo r []], agent := .resetWaiting })) ∧
  ∀ (s : State) (k : Option RequestKind), s.link.agent = .resetWaiting →
    exec (performingCommand k) s = .next s

/-! ### Parameters, envelopes, route -/

/-- The parameter table by id: class, default and range or codes, and the ids of the names. Taking a parameter: a
value out of its range goes to the nearer end, angle_offset is reduced mod 16384, an undefined code takes the default,
min_range and max_range clamped out of order both take theirs, and each of these is an adjustment; report_enable takes
its low four bits, which is none. SET_PARAM: the image takes the value as written; a RUN or RESTART value changes
nothing more, a LIVE value waits in RUNNING, and outside RUNNING the LIVE class is taken at once, with the adjusted
list anew and PARAM_ADJUSTED at the first adjustment (R148, R150, R151, R152, R153, R178, section 8.6). The model's
choice: log entries 18 and 31, and that report_enable in effect lies in 0..15 (log entry 18). -/
def Obligations.SetParamStores : Prop :=
  (let clampRows : List (Nat × ParamClass × Int × Int × Int) := [
      (2, .run, 0, -2048, 2047), (19, .run, 400, 0, 65534), (20, .run, 48000, 1, 65534), (21, .run, 0, -32768, 32767),
      (22, .run, 4800, 0, 32767), (24, .run, 10000, 2000, 50000), (26, .run, 2, 1, 32), (27, .run, 4, 1, 32),
      (28, .run, 3, 1, 8), (29, .run, 3, 1, 8), (32, .run, 6032, 1, 16777215), (33, .run, 8, 0, 255),
      (35, .run, 3, 0, 15), (37, .run, 2000, 0, 65535), (38, .run, 500, 0, 4095), (39, .run, 1000, 0, 65535),
      (40, .live, 200, 0, 4095), (41, .live, 1, 1, 64), (43, .live, 0, 0, 65535), (46, .restart, 3, 0, 3)]
   let codeRows : List (Nat × ParamClass × Int × Int) := [
      (23, .run, 0, 2), (25, .run, 1, 4), (30, .run, 0, 2), (31, .run, 0, 3), (34, .run, 0, 2), (36, .run, 3, 8),
      (42, .live, 0, 4), (45, .live, 1, 2)]
   ∀ p : ParamId, idNumber p = p.val + 1 ∧
     (p.val + 1 = 1 → paramRow p = ⟨.run, 0, .reduceMod 16384⟩) ∧
     (3 ≤ p.val + 1 → p.val + 1 ≤ 18 → paramRow p = ⟨.run, 0, .clampTo (-512) 511⟩) ∧
     (∀ row ∈ clampRows, row.1 = p.val + 1 →
       paramRow p = ⟨row.2.1, row.2.2.1, .clampTo row.2.2.2.1 row.2.2.2.2⟩) ∧
     (∀ row ∈ codeRows, row.1 = p.val + 1 → paramRow p = ⟨row.2.1, row.2.2.1, .codes row.2.2.2⟩) ∧
     (p.val + 1 = 44 → paramRow p = ⟨.live, 14, .mask⟩) ∧
     ∀ v : Int, (paramRow p).admits v = true ↔
       match (paramRow p).adj with
       | .clampTo lo hi => lo ≤ v ∧ v ≤ hi
       | .reduceMod m => 0 ≤ v ∧ v < m
       | .codes n => 0 ≤ v ∧ v < n
       | .mask => 0 ≤ v ∧ v ≤ 15) ∧
  ([Param.angleOffset, Param.zeroOffset] ++ (List.finRange 16).map Param.walk ++ [
    Param.minRange, Param.maxRange, Param.latOffset, Param.heightOffset, Param.multiPolicy, Param.revPeriod,
    Param.revTolerance, Param.hitThreshold, Param.minValid, Param.mOn, Param.mOff, Param.tablePolicy, Param.wheelMode,
    Param.wheelConstant, Param.slipTolerance, Param.forwardSign, Param.wheelFilter, Param.inputConstant,
    Param.matchWindow, Param.hysteresis, Param.maxGap, Param.warnMargin, Param.decimation, Param.pointStride,
    Param.maxSpacing, Param.reportEnable, Param.headNotes, Param.maxPayload]).map Fin.val = List.range 46 ∧
  (∀ (s : State) (p : ParamId), s.eff p = s.params.effect[p] ∧ s.effNat p = (s.params.effect[p]).toNat) ∧
  (∀ (image : Vector Int 46) (p : ParamId),
    let low := max 0 (min 65534 image[Param.minRange])
    let high := max 1 (min 65534 image[Param.maxRange])
    (high ≤ low → adjusted image Param.minRange = (400, true) ∧ adjusted image Param.maxRange = (48000, true)) ∧
    (low < high ∨ (p ≠ Param.minRange ∧ p ≠ Param.maxRange) → adjusted image p =
      (match (paramRow p).adj with
       | .clampTo a b => (max a (min b image[p]), decide (image[p] < a ∨ b < image[p]))
       | .reduceMod m => (image[p] % m, decide (image[p] < 0 ∨ m ≤ image[p]))
       | .codes n => if 0 ≤ image[p] ∧ image[p] < n then (image[p], false) else ((paramRow p).default, true)
       | .mask => (image[p] % 16, false)))) ∧
  ∀ (s : State) (r : Request) (rest : List Request) (p : ParamId) (id v0 v1 v2 v3 : Byte),
    s.Offers .setParam r rest → r.payload = [id, v0, v1, v2, v3] → id.toNat = p.val + 1 →
    let image := s.params.image.set p (readSigned [v0, v1, v2, v3])
    ((paramRow p).cls ≠ .live → exec .setParam s =
      .next ((s.withParams { s.params with image := image }).answered rest (doneTo r r.payload))) ∧
    ((paramRow p).cls = .live → s.ctrl.run = .running → exec .setParam s =
      .next ((s.withParams { s.params with image := image, liveWaiting := true }).answered rest
        (doneTo r r.payload))) ∧
    ((paramRow p).cls = .live → s.ctrl.run ≠ .running → s.room 1 → exec .setParam s =
      .next (((s.withParams { s.params with image := image }).liveTaken).answered rest (doneTo r r.payload)))

/-- GET_PARAM answers id, class, image value and value in effect, and changes nothing else (R149). -/
def Obligations.GetParamAnswers : Prop :=
  ∀ (s : State) (r : Request) (rest : List Request) (p : ParamId) (id : Byte), s.Offers .getParam r rest →
    r.payload = [id] → id.toNat = p.val + 1 →
    exec .getParam s = .next (s.answered rest (doneTo r
      ([id, match (paramRow p).cls with | .restart => 0 | .run => 1 | .live => 2] ++
        leSigned 4 s.params.image[p] ++ leSigned 4 s.params.effect[p])))

/-- LOAD_ENVELOPE: limit j of the load goes to sector (f + j) mod 256 of the slot's pending copy, the other sectors, the
live copy and the other slots stay, the slot is DIRTY; with the slot WAITING it is refused with COMMIT_WAITING (R39,
R40). -/
def Obligations.LoadEnvelopeWrites : Prop :=
  ∀ (s : State) (r : Request) (rest : List Request) (k : SlotId) (slot first : Byte) (limits : List Byte),
    s.Offers .loadEnvelope r rest → r.payload = slot :: first :: limits →
    RequestKind.loadEnvelope.legalLength r.payload.length → slot.toNat = k.val →
    (s.envelopes[k].state ≠ .waiting → ∃ t, exec .loadEnvelope s = .next t ∧
      t = (s.withEnvelopes t.envelopes).answered rest (doneTo r []) ∧
      t.envelopes[k].state = .dirty ∧ t.envelopes[k].live = s.envelopes[k].live ∧
      (∀ j < limits.length / 2, ∀ i : Sector, i.val = (first.toNat + j) % 256 →
        (t.envelopes[k].prepared[i]).toNat = (limits.getD (2 * j) 0).toNat + 256 * (limits.getD (2 * j + 1) 0).toNat) ∧
      (∀ i : Sector, (∀ j < limits.length / 2, i.val ≠ (first.toNat + j) % 256) →
        t.envelopes[k].prepared[i] = s.envelopes[k].prepared[i]) ∧
      ∀ m : SlotId, m ≠ k → t.envelopes[m] = s.envelopes[m]) ∧
    (s.envelopes[k].state = .waiting → s.room 1 → exec .loadEnvelope s =
      .next ((s.reported .reqCommit).answered rest (refusedTo r .commitWaiting [])))

/-- COMMIT_ENVELOPE: a wrong length and a slot outside 0..7 are refused; else by the slot's pending state and the run
state DIRTY in RUNNING waits, DIRTY elsewhere goes live at once, CLEAN and WAITING stay, and it is answered DONE (R41). -/
def Obligations.CommitEnvelopeActs : Prop :=
  ∀ (s : State) (r : Request) (rest : List Request), s.Offers .commitEnvelope r rest →
    (s.room 1 → r.payload.length ≠ 1 → exec .commitEnvelope s =
      .next ((s.reported .reqLength).answered rest (refusedTo r .badLength []))) ∧
    (∀ slot : Byte, s.room 1 → r.payload = [slot] → 8 ≤ slot.toNat → exec .commitEnvelope s =
      .next ((s.reported .reqRange).answered rest (refusedTo r .outOfRange []))) ∧
    ∀ (k : SlotId) (slot : Byte), r.payload = [slot] → slot.toNat = k.val →
      exec .commitEnvelope s = .next ((s.withEnvelopes (s.envelopes.set k
        (match s.envelopes[k].state with
         | .dirty =>
           if s.ctrl.run = .running then { s.envelopes[k] with state := .waiting }
           else { live := s.envelopes[k].prepared, prepared := s.envelopes[k].prepared, state := .clean }
         | .clean => s.envelopes[k]
         | .waiting => s.envelopes[k]))).answered rest (doneTo r []))

/-- READ_ENVELOPE answers the limits of the copy selected, from the first sector on, modulo 256, with the pending state,
and changes nothing else (R45). -/
def Obligations.ReadEnvelopeAnswers : Prop :=
  ∀ (s : State) (r : Request) (rest : List Request) (k : SlotId) (slot copy first count : Byte),
    s.Offers .readEnvelope r rest → r.payload = [slot, copy, first, count] → slot.toNat = k.val → copy.toNat ≤ 1 →
    1 ≤ count.toNat → count.toNat ≤ 64 →
    exec .readEnvelope s = .next (s.answered rest (doneTo r
      ([slot, copy, match s.envelopes[k].state with | .clean => 0 | .dirty => 1 | .waiting => 2, first, count] ++
        (List.range count.toNat).flatMap fun j =>
          leBytes 2 ((if copy.toNat = 1 then s.envelopes[k].prepared else s.envelopes[k].live)[
            (first.toNat + j) % 256]'(Nat.mod_lt _ (by decide))).toNat)))

/-- LOAD_ROUTE of legal entries in IDLE or FAULT: they stand at the indices from the first one on, entries elsewhere stay,
the table grows where the load passes its end, the current segment is OFF_ROUTE; the 8 bytes of an entry (R107, R108, R114,
section 12.3). -/
def Obligations.LoadRouteWrites : Prop :=
  (∀ e : RouteEntry, e.bytes =
    match e with
    | .segment c slot margin =>
      [0, match slot with | some k => BitVec.ofNat 8 k.val | none => 0xFF] ++ leBytes 2 (margin.getD 0xFFFF) ++
        leSigned 4 c
    | .reference c label => [1, 0] ++ leBytes 2 label ++ leSigned 4 c) ∧
  ∀ (s : State) (r : Request) (rest : List Request) (f : Nat) (es : List RouteEntry), s.Offers .loadRoute r rest →
    r.payload = leBytes 2 f ++ es.flatMap RouteEntry.bytes → 1 ≤ es.length → es.length ≤ 32 →
    f ≤ s.route.entries.length → f + es.length ≤ 512 → s.ctrl.run = .idle ∨ s.ctrl.run = .fault →
    (∀ e ∈ es, match e with
      | .segment c _ m => -2 ^ 31 ≤ c ∧ c < 2 ^ 31 ∧ (∀ w, m = some w → w ≤ 4095)
      | .reference c l => -2 ^ 31 ≤ c ∧ c < 2 ^ 31 ∧ l < 65536) →
    ∃ t, exec .loadRoute s = .next t ∧ t = (s.withRoute t.route).answered rest (doneTo r []) ∧
      t.route.current = none ∧ t.route.lastApplied = s.route.lastApplied ∧
      t.route.entries.length = max s.route.entries.length (f + es.length) ∧
      (∀ j < es.length, t.route.entries[f + j]? = es[j]?) ∧
      ∀ i, i < f ∨ f + es.length ≤ i → t.route.entries[i]? = s.route.entries[i]?

/-- TRIM_ROUTE: a wrong length, a run RUNNING or PAUSED and a length above the present one are refused; else the table
keeps its first n entries and the current segment becomes OFF_ROUTE. READ_ROUTE: a wrong length, a count outside 1..32
and a first index above the length are refused; else it answers the length and the entries asked for and changes nothing
else (R109, R110). -/
def Obligations.TrimAndReadRoute : Prop :=
  (∀ (s : State) (r : Request) (rest : List Request), s.Offers .trimRoute r rest →
    (s.room 1 → r.payload.length ≠ 2 → exec .trimRoute s =
      .next ((s.reported .reqLength).answered rest (refusedTo r .badLength []))) ∧
    (s.room 1 → r.payload.length = 2 → s.ctrl.run = .running ∨ s.ctrl.run = .paused → exec .trimRoute s =
      .next ((s.reported .reqState).answered rest (refusedTo r .wrongState []))) ∧
    ∀ n0 n1 : Byte, r.payload = [n0, n1] → s.ctrl.run = .idle ∨ s.ctrl.run = .fault →
      (s.room 1 → s.route.entries.length < n0.toNat + 256 * n1.toNat → exec .trimRoute s =
        .next ((s.reported .reqRange).answered rest (refusedTo r .outOfRange []))) ∧
      (n0.toNat + 256 * n1.toNat ≤ s.route.entries.length →
        exec .trimRoute s = .next ((s.withRoute { s.route with
          entries := s.route.entries.take (n0.toNat + 256 * n1.toNat), current := none }).answered rest
          (doneTo r [])))) ∧
  ∀ (s : State) (r : Request) (rest : List Request), s.Offers .readRoute r rest →
    (s.room 1 → r.payload.length ≠ 3 → exec .readRoute s =
      .next ((s.reported .reqLength).answered rest (refusedTo r .badLength []))) ∧
    ∀ f0 f1 count : Byte, r.payload = [f0, f1, count] →
      (s.room 1 → s.route.entries.length < f0.toNat + 256 * f1.toNat ∨ count.toNat = 0 ∨ 32 < count.toNat →
        exec .readRoute s = .next ((s.reported .reqRange).answered rest (refusedTo r .outOfRange []))) ∧
      (f0.toNat + 256 * f1.toNat ≤ s.route.entries.length → 1 ≤ count.toNat → count.toNat ≤ 32 →
        exec .readRoute s = .next (s.answered rest (doneTo r
          (leBytes 2 s.route.entries.length ++ [f0, f1] ++
            [BitVec.ofNat 8 (min count.toNat (s.route.entries.length - (f0.toNat + 256 * f1.toNat)))] ++
            ((s.route.entries.drop (f0.toNat + 256 * f1.toNat)).take count.toNat).flatMap RouteEntry.bytes))))

/-- A route table passes validation exactly when its chainages never fall along the list, its SEGMENT starts strictly
rise, and it holds a SEGMENT. Of any other the first offending entry is the first whose chainage falls or whose SEGMENT
start does not rise above the last SEGMENT's, else the length (R111). In a table that passes, a plain lookup gives the SEGMENT with the greatest start not
above the chainage (R113). -/
def Obligations.RouteValidation : Prop :=
  ∀ table : List RouteEntry,
    (firstOffending table = none ↔
      (table.map RouteEntry.chainage).Pairwise (· ≤ ·) ∧
      ((table.filter RouteEntry.isSegment).map RouteEntry.chainage).Pairwise (· < ·) ∧
      ∃ e ∈ table, e.isSegment = true) ∧
    (let offends (i : Nat) : Prop :=
       ∃ a b, 1 ≤ i ∧ table[i - 1]? = some a ∧ table[i]? = some b ∧ (b.chainage < a.chainage ∨
         (b.isSegment = true ∧ ∃ j c, j < i ∧ table[j]? = some c ∧ c.isSegment = true ∧ b.chainage ≤ c.chainage ∧
           ∀ m d, j < m → m < i → table[m]? = some d → d.isSegment = false))
     ∀ i, firstOffending table = some i ↔
       (offends i ∧ ∀ j < i, ¬ offends j) ∨
         ((∀ j, ¬ offends j) ∧ (∀ e ∈ table, e.isSegment = false) ∧ i = table.length)) ∧
    (firstOffending table = none → ∀ (c : Int) (i : Nat), lookup table c = some i ↔
      ∃ a slot margin, table[i]? = some (RouteEntry.segment a slot margin) ∧ a ≤ c ∧
        ∀ (j : Nat) b slot' margin', table[j]? = some (RouteEntry.segment b slot' margin') → b ≤ c → b ≤ a)

/-! ### Run control -/

/-- An accepted START: the RUN class taken with the adjusted list anew and PARAM_ADJUSTED, the ring window fixed, the
counters 0, the stall timer started, every sector CLEAR, the WAITING slots live, the chainage set, the current
segment by plain lookup, the run RUNNING; the direction and ALERT stay (R6, R10, R14, R43, R86, R96, R114, R132,
R150, R153). A filter keeps its accepted level (R88, R112). The model's choice: its run count becomes 0 only where
the wheel_filter or input_constant taken differs from the one in effect, which reads R88 and R112 beside R96 and R105
(log entry 9); the RUN class is taken before the run-local state is set, so its NOTICE carries the old ring sequence
and chainage (log entry 16). -/
def Obligations.StartBeginsRun : Prop :=
  ∀ (s : State) (r : Request) (rest : List Request) (v0 v1 v2 v3 : Byte), s.Offers .start r rest →
    r.payload = [v0, v1, v2, v3] → s.ctrl.run = .idle → s.head.lock = .locked →
    firstOffending s.route.entries = none →
    let ids := adjustedIn s.params.image .run
    let told := if ids = [] then s else s.reported .paramAdjusted
    ∃ t, exec .start s = .next t ∧
      let v := readSigned [v0, v1, v2, v3]
      let period := t.effNat Param.revPeriod
      let width := period * 2 ^ t.effNat Param.revTolerance / 16
      t.ctrl = { s.ctrl with run := .running, startChainage := some v, chainageAtPause := none } ∧
      t.ring = { asm := .waiting, ringSeq := 0, discards := 0, tMin := period - width, tMax := period + width,
                 stall := some (s.clock.timeBase + BitVec.ofNat 32 (4 * period)), accepted := 0, short := 0,
                 long := 0 } ∧
      (∀ i : Sector, t.tracker.sectors[i] = .clear ∧ t.tracker.accumulators[i] = .empty) ∧
      t.tracker.table = [] ∧ t.tracker.counter = 1 ∧ t.tracker.alert = s.tracker.alert ∧
      t.odo = { s.odo with accumulator := v * 131072, left := 0, right := 0, spacingRef := none } ∧
      t.route = { entries := s.route.entries, current := lookup s.route.entries v, lastApplied := none } ∧
      t.envelopes = s.waitingLive ∧
      t.params = { s.params with effect := s.params.taken .run, adjustedIds := (ids.map idNumber).take 8,
                                 further := ids.length - 8 } ∧
      (∀ i : InputPin,
        let changed : Bool :=
          match i with
          | .tagStb | .markKey => t.eff Param.inputConstant ≠ s.eff Param.inputConstant
          | .whlA | .whlB | .whrA | .whrB => t.eff Param.wheelFilter ≠ s.eff Param.wheelFilter
        t.filters.get i = { s.filters.get i with
          runCount := if changed then 0 else (s.filters.get i).runCount }) ∧
      (s.room 1 → t.causes = told.causes ∧ t.link.events = told.link.events) ∧
      t = { s with
              ctrl := t.ctrl, ring := t.ring, tracker := t.tracker, odo := t.odo, route := t.route, params := t.params
              envelopes := t.envelopes, filters := t.filters, causes := t.causes
              link := { s.link with requests := rest, responses := s.link.responses ++ [doneTo r []],
                                    events := t.link.events, skipped := 0, madeReady := 0, runSkipped := 0 } }

/-- A START with the receiver SEARCHING is refused with HEAD_UNLOCKED, one with an invalid route with ROUTE_INVALID and
the first offending index; nothing else changes (R131, R168). -/
def Obligations.StartRefused : Prop :=
  ∀ (s : State) (r : Request) (rest : List Request), s.Offers .start r rest → r.payload.length = 4 →
    s.ctrl.run = .idle → s.room 1 →
    (s.head.lock = .searching → exec .start s =
      .next ((s.reported .headUnlocked).answered rest (refusedTo r .headUnlocked []))) ∧
    ∀ i, s.head.lock = .locked → firstOffending s.route.entries = some i → exec .start s =
      .next ((s.reported .reqRoute).answered rest (refusedTo r .routeInvalid (leBytes 2 i)))

/-- An accepted PAUSE: the work of leaving RUNNING (the open ring abandoned with its MARK record and its slot freed, the
Ring Assembler INACTIVE with the timer stopped, WAITING slots live, ALERT off, a waiting LIVE write taken), then the
chainage at pause and the run PAUSED; all else stays, the intrusions, the sectors, the Odometer, the route and the other
profile slots among it (R15, R43, R81, R134, R135, R151). The model's choice: log entries 18, 30 and 31. -/
def Obligations.PauseLeavesRunning : Prop :=
  ∀ (s : State) (r : Request) (rest : List Request), s.Offers .pause r rest → r.payload = [] →
    s.ctrl.run = .running → s.room 2 →
    exec .pause s = .next ((s.leftRunning.withCtrl { s.ctrl with
      run := .paused, chainageAtPause := some s.chainage }).answered rest (doneTo r [])) ∧
    s.leftRunning.ring = { s.ring with asm := .inactive, stall := none } ∧
    s.leftRunning.tracker = { s.tracker with alert := false } ∧ s.leftRunning.odo = s.odo ∧
    s.leftRunning.route = s.route ∧ s.leftRunning.params.image = s.params.image ∧
    (∀ k : SlotId, s.leftRunning.envelopes[k] =
      if s.envelopes[k].state = .waiting then
        { live := s.envelopes[k].prepared, prepared := s.envelopes[k].prepared, state := .clean }
      else s.envelopes[k]) ∧
    (∀ ring m, s.ring.asm = .opened ring → ring.heldMark = some m →
      ({ ringSeq := s.ring.ringSeq, body := .mark m ring.chainage .abandoned } : EventRecord) ∈
        s.leftRunning.link.events) ∧
    ∀ k : Fin 3, s.leftRunning.link.slots[k] =
      if s.openRing.bind RingContext.profileSlot = some k then .free else s.link.slots[k]

/-- RESUME: refused with HEAD_UNLOCKED in SEARCHING; with no gap the run goes on with the table kept; with a gap every
intrusion is closed GAP in ascending number with the chainage at pause, and every sector is CLEAR (R82, R85, R136,
R137). -/
def Obligations.ResumeReturns : Prop :=
  ∀ (s : State) (r : Request) (rest : List Request) (c : Int), s.Offers .resume r rest → r.payload = [] →
    s.ctrl.run = .paused → s.ctrl.chainageAtPause = some c →
    let ring : RingAssembler := { s.ring with
      asm := .waiting, discards := 0, stall := some (s.clock.timeBase + BitVec.ofNat 32 (4 * s.effNat Param.revPeriod)) }
    let ctrl : RunController := { s.ctrl with run := .running, chainageAtPause := none }
    (s.head.lock = .searching → s.room 1 → exec .resume s =
      .next ((s.reported .headUnlocked).answered rest (refusedTo r .headUnlocked []))) ∧
    (s.head.lock = .locked → |s.chainage - c| ≤ s.effNat Param.maxGap → exec .resume s =
      .next ((((s.withCtrl ctrl).withRing ring).withTracker { s.tracker with
        alert := !s.tracker.table.isEmpty }).answered rest (doneTo r []))) ∧
    (s.head.lock = .locked → (s.effNat Param.maxGap : Int) < |s.chainage - c| → s.room s.tracker.table.length →
      exec .resume s = .next (((((s.withCtrl ctrl).withRing ring).withTracker { s.tracker with
        alert := false, table := [], sectors := Vector.replicate 256 .clear }).withLink { s.link with
        events := s.link.events ++ s.tracker.table.map fun x =>
          { ringSeq := s.ring.ringSeq, body := .intrusionClose x c s.ring.ringSeq .gap none } }).answered rest
        (doneTo r [])))

/-- An accepted STOP in PAUSED: the pending fix CANCELLED, every intrusion closed RUN_END in ascending number, the
RUN_SUMMARY, then IDLE; in RUNNING the work of leaving RUNNING comes first, with its MARK record and a waiting LIVE write
taken (R83, R99, R123, R134, R138, R139). The model's choice: log entries 18, 30 and 31. -/
def Obligations.StopEndsRun : Prop :=
  ∀ (s : State) (r : Request) (rest : List Request), s.Offers .stop r rest → r.payload = [] →
    let summary : RunSummary :=
      { byFault := false, opened := s.ring.ringSeq, accepted := s.ring.accepted, short := s.ring.short,
        long := s.ring.long, madeReady := s.link.madeReady, skipped := s.link.runSkipped,
        intrusions := s.tracker.counter - 1, startChainage := s.ctrl.startChainage, endChainage := s.chainage }
    let closes : List EventBody := s.tracker.table.map fun x =>
      .intrusionClose x s.chainage s.ring.ringSeq .runEnd none
    let cancelled : List EventBody :=
      match s.odo.pendingFix with
      | some f => [.fix { status := .cancelled, capture := f.capture, offset := some f.offset, beforeAfter := none,
                          isTag := (match f.origin with | .tag _ _ => true | .manual => false),
                          reference := (match f.origin with | .tag i l => some (i, l) | .manual => none) }]
      | none => []
    let ended (u : State) : Result :=
      .next (((((u.withOdo { s.odo with pendingFix := none }).withTracker { u.tracker with
        table := [], sectors := Vector.replicate 256 .clear }).withCtrl { s.ctrl with
        run := .idle, chainageAtPause := none }).withLink { u.link with
        events := u.link.events ++ (cancelled ++ closes ++ [EventBody.runSummary summary]).map fun b =>
          { ringSeq := s.ring.ringSeq, body := b } }).answered rest (doneTo r []))
    (s.ctrl.run = .paused → s.room (s.tracker.table.length + 2) → exec .stop s = ended s) ∧
    (s.ctrl.run = .running → s.room (s.tracker.table.length + 4) → exec .stop s = ended s.leftRunning)

/-- CLEAR_FAULT makes the fault record absent and the run IDLE; FIX_CHAINAGE sets the chainage in IDLE, and in RUNNING or
PAUSED places a MANUAL fix, recording SUPERSEDED one it replaces (R96, R97, R121, R123, R143). -/
def Obligations.ClearFaultAndFixChainage : Prop :=
  (∀ (s : State) (r : Request) (rest : List Request), s.Offers .clearFault r rest → r.payload = [] →
    s.ctrl.run = .fault → exec .clearFault s =
      .next ((s.withCtrl { s.ctrl with run := .idle, faultRecord := none }).answered rest (doneTo r []))) ∧
  ∀ (s : State) (r : Request) (rest : List Request) (v0 v1 v2 v3 : Byte), s.Offers .fixChainage r rest →
    r.payload = [v0, v1, v2, v3] →
    let v := readSigned [v0, v1, v2, v3]
    let fix : Fix := { offset := v - s.chainage, origin := .manual, capture := s.chainage }
    (s.ctrl.run = .idle → exec .fixChainage s = .next ((s.withOdo
      { s.odo with accumulator := v * 131072, left := 0, right := 0 }).answered rest (doneTo r []))) ∧
    (s.ctrl.run = .running ∨ s.ctrl.run = .paused → s.odo.pendingFix = none → exec .fixChainage s =
      .next ((s.withOdo { s.odo with pendingFix := some fix }).answered rest (doneTo r []))) ∧
    ∀ old : Fix, s.ctrl.run = .running ∨ s.ctrl.run = .paused → s.odo.pendingFix = some old → s.room 1 →
      exec .fixChainage s = .next (((s.withOdo { s.odo with pendingFix := some fix }).recorded (.fix
        { status := .superseded, capture := old.capture, offset := some old.offset, beforeAfter := none,
          isTag := (match old.origin with | .tag _ _ => true | .manual => false),
          reference := (match old.origin with | .tag k l => some (k, l) | .manual => none) })).answered rest
        (doneTo r []))

/-! ### Recorder link -/

/-- Upstream symbols on an UP link: a start delimiter begins a frame, an idle symbol or a delimiter ends it, and the
frame is then judged. A good one is queued while fewer than four wait, else answered BUSY while a response place is
free, else dropped, with REQ_BUSY for both; none of that cause while a RESET response waits; a bad one raises
REQ_CHECK. A frame may reach the receiver in several commands. On a DOWN link no frame is received, and a symbol moves
the symbol lock alone (R155, R165, R166, R175). The model's choice: REQUEST_FRAME carries the next upstream symbols,
on a DOWN link too, and a frame may be spread over several commands (log entries 10, 28), and every symbol that
section 1.1 calls invalid, another control symbol or a disparity break among them, makes the frame bad (log
entry 34). -/
def Obligations.RequestFrameTakenIn : Prop :=
  ∀ s : State,
    exec (.requestFrame []) s = .next s ∧
    s.link.placesTaken = s.link.responses.length + (match s.link.agent with | .headPass _ _ _ => 1 | _ => 0) ∧
    (s.link.agent.resetting = true ↔ s.link.agent = .resetWaiting) ∧
    (∀ xs ys u, exec (.requestFrame xs) s = .next u →
      exec (.requestFrame (xs ++ ys)) s = exec (.requestFrame ys) u) ∧
    (s.link.up = false → ∀ x : Symbol, ∃ t, exec (.requestFrame [x]) s = .next t ∧
      t = s.withLink { s.link with sync := t.link.sync }) ∧
    (s.link.up = true →
      let heard : SymbolLock := { s.link.sync with invalids := 0 }
      (s.link.partFrame = none →
        exec (.requestFrame [.delimiter]) s = .next (s.withLink { s.link with sync := heard, partFrame := some [] }) ∧
        exec (.requestFrame [.idle]) s = .next (s.withLink { s.link with sync := heard }) ∧
        ∀ b, exec (.requestFrame [.data b]) s = .next (s.withLink { s.link with sync := heard })) ∧
      ∀ part, s.link.partFrame = some part →
        (∀ b, exec (.requestFrame [.data b]) s =
          .next (s.withLink { s.link with sync := heard, partFrame := some (part ++ [.data b]) })) ∧
        (s.link.sync.invalids < 3 → exec (.requestFrame [.invalid]) s = .next (s.withLink { s.link with
          sync := { s.link.sync with invalids := s.link.sync.invalids + 1 }, partFrame := some (part ++ [.invalid]) })) ∧
        ∀ z : Symbol, z = .idle ∨ z = .delimiter →
          let u := s.withLink { s.link with sync := heard, partFrame := if z = .delimiter then some [] else none }
          (s.room 1 → parseRequest part = none → exec (.requestFrame [z]) s = .next (u.reported .reqCheck)) ∧
          ∀ r : Request, parseRequest part = some r →
            (s.link.requests.length < 4 → exec (.requestFrame [z]) s =
              .next (u.withLink { u.link with requests := s.link.requests ++ [r] })) ∧
            (4 ≤ s.link.requests.length → s.link.agent.resetting = true → exec (.requestFrame [z]) s = .next u) ∧
            (4 ≤ s.link.requests.length → s.link.agent.resetting = false → s.link.placesTaken < 4 → s.room 1 →
              exec (.requestFrame [z]) s = .next ((u.reported .reqBusy).answered s.link.requests
                { tag := r.tag, kind := r.kind, result := .busy, reason := none, payload := [] })) ∧
            (4 ≤ s.link.requests.length → s.link.agent.resetting = false → 4 ≤ s.link.placesTaken → s.room 1 →
              exec (.requestFrame [z]) s = .next (u.reported .reqBusy)))

/-- The arbiter, with the link UP and the transmitter free, takes the oldest response, else the oldest event record,
else the next segment of the profile made ready first (R156, R157). The bytes of a frame, of a response and of each
kind of event record (R182, R183, section 12.3, section 12.5). The model's choice: with the link DOWN or the
transmitter busy the command changes nothing (log entry 5), and a FIX record carries by status the fields of section
6.8 (log entry 19). -/
def Obligations.ArbiterOrder : Prop :=
  (∀ s : State,
    let sends (t : Transmission) : Result := .next (s.withLink { s.link with tx := some t })
    (s.link.up = false ∨ s.link.tx.isSome = true → exec .arbiterChoose s = .next s) ∧
    (s.link.up = true → s.link.tx = none →
      (∀ r rs, s.link.responses = r :: rs → exec .arbiterChoose s =
        sends { source := .response, frame := linkFrame 0x80 r.tag r.payloadBytes, sent := 0 }) ∧
      (∀ e es, s.link.responses = [] → s.link.events = e :: es → exec .arbiterChoose s =
        sends { source := .event, frame := linkFrame 0x81 0 e.payload, sent := 0 }) ∧
      (∀ (k : Fin 3) (ks : List (Fin 3)) (p : Profile), s.link.responses = [] → s.link.events = [] →
        s.link.readyOrder = k :: ks → s.link.slots[k].profile = some p → exec .arbiterChoose s =
        sends { source := .segment k, sent := 0,
                frame := linkFrame 0x82 0 (p.segmentPayload (256 * 2 ^ s.effNat Param.maxPayload) p.nextSegment) }) ∧
      (s.link.responses = [] → s.link.events = [] → s.link.readyOrder = [] → exec .arbiterChoose s = .next s))) ∧
  crc16 [0x31, 0x32, 0x33, 0x34, 0x35, 0x36, 0x37, 0x38, 0x39] = 0x29B1 ∧
  (∀ (kind tag : Byte) (payload : List Byte),
    let body := [kind, tag] ++ leBytes 2 payload.length ++ payload
    linkFrame kind tag payload = body ++ leBytes 2 (crc16 body).toNat) ∧
  (∀ r : Response, r.payloadBytes =
    [r.kind, (match r.result with | .done => 0 | .refused => 1 | .busy => 2),
     (match r.reason with
      | none => 0 | some .unknownKind => 1 | some .badLength => 2 | some .wrongState => 3 | some .outOfRange => 4
      | some .routeInvalid => 5 | some .headUnlocked => 6 | some .commitWaiting => 7)] ++ r.payload) ∧
  ∀ (n : Nat) (body : EventBody),
    let entry (x : Intrusion) : List Byte :=
      leBytes 4 x.number ++ [BitVec.ofNat 8 x.first.val] ++ leBytes 2 x.span ++ leSigned 4 x.openChainage ++
        leBytes 4 x.openRing ++ leSigned 4 x.peakClearance ++ leBytes 2 x.peakAngle ++ leSigned 4 x.peakChainage ++
        leBytes 4 x.peakRing ++ leBytes 2 x.confirmedRings ++
        [match x.slotAtOpen with | some k => BitVec.ofNat 8 k.val | none => 0xFF] ++ [if x.late then 1 else 0]
    let flag (why : CloseCause) : Nat :=
      match why with
      | .released => 0 | .merged => 1 | .evicted => 2 | .unguarded => 4 | .gap => 8 | .runEnd => 16 | .fault => 32
    ({ ringSeq := n, body := body } : EventRecord).payload =
      match body with
      | .intrusionOpen x c => [1] ++ leBytes 4 n ++ entry x ++ leSigned 4 c
      | .intrusionClose x c ring why survivor =>
        [2] ++ leBytes 4 n ++ entry x ++ leSigned 4 c ++ leBytes 4 ring ++
          [BitVec.ofNat 8 (flag why + if x.late then 64 else 0)] ++ leBytes 4 (survivor.getD 0)
      | .mark m c status =>
        [3] ++ leBytes 4 n ++ leSigned 4 m.chainage ++ leBytes 4 m.ringSeq ++ leBytes 2 (m.angle.getD 0xFFFF) ++
          [BitVec.ofNat 8 m.merged] ++ leSigned 4 c ++
          [match status with | .accepted => 0 | .short => 1 | .long => 2 | .abandoned => 3]
      | .fix f =>
        [4] ++ leBytes 4 n ++
          [match f.status with
           | .applied => 0 | .superseded => 1 | .unmatched => 2 | .repeated => 3 | .manual => 4 | .cancelled => 5] ++
          [if f.isTag then 0 else 1] ++ leSigned 4 f.capture ++
          (match f.reference with | some (i, label) => leBytes 2 i ++ leBytes 2 label | none => [0, 0, 0, 0]) ++
          leSigned 8 (f.offset.getD 0) ++
          (match f.beforeAfter with
           | some (before, after) => leSigned 4 before ++ leSigned 4 after
           | none => [0, 0, 0, 0, 0, 0, 0, 0])
      | .notice cause c =>
        [5] ++ leBytes 4 n ++
          [match cause.cls with | .correctable => 0 | .nonfatal => 1 | .fatal => 2 | .refused => 3] ++
          [BitVec.ofNat 8 cause.bit] ++ leSigned 4 c
      | .runSummary y =>
        [6] ++ leBytes 4 n ++ [if y.byFault then 1 else 0] ++
          [y.opened, y.accepted, y.short, y.long, y.madeReady, y.skipped, y.intrusions].flatMap (leBytes 4) ++
          (match y.startChainage with | some c => leSigned 4 c | none => [0, 0, 0, 0x80]) ++ leSigned 4 y.endChainage
      | .headNote bytes => [7] ++ leBytes 4 n ++ [BitVec.ofNat 8 bytes.length] ++ bytes

/-- A frame transmitted: its response or event record leaves its queue, whatever the Agent does, its segment counts as
sent, and the slot is FREE after the last one; with an accepted RESET's response the reset takes effect. The link comes UP
with the third consecutive K28.5 and goes DOWN with the fourth consecutive invalid symbol, which cuts the frame being sent
off, its item staying; an upstream frame cut raises REQ_CHECK (R155, R156, R162, R163, R165, R175). The model's choice:
FRAME_TRANSMITTED does not count symbols (log entry 6), and commands with no occasion change nothing (log entry 5); the
counts run over all commands, of which RECORDER_LINK_UP is three K28.5 symbols and RECORDER_LINK_DOWN carries the next
upstream symbols (log entry 28). -/
def Obligations.FramesAndLinkState : Prop :=
  ∀ s : State,
    s.link.up = s.link.sync.held ∧
    (∀ (x : ProfileSlot) (p : Profile), x.profile = some p ↔ x = .ready p ∨ x = .sending p) ∧
    (s.link.tx = none → exec .frameTransmitted s = .next s) ∧
    (∀ t rs x, s.link.tx = some t → t.source = .response → s.link.responses = x :: rs →
      (s.link.agent = .resetWaiting → x.kind = 0x7F → x.result = .done →
        exec .frameTransmitted s = exec .resetTakesEffect s ∧
        exec .frameTransmitted s = .next s.afterReset) ∧
      (s.link.agent ≠ .resetWaiting ∨ x.kind ≠ 0x7F ∨ x.result ≠ .done →
        exec .frameTransmitted s = .next (s.withLink { s.link with tx := none, responses := rs }))) ∧
    (∀ t, s.link.tx = some t → t.source = .event → exec .frameTransmitted s =
      .next (s.withLink { s.link with tx := none, events := s.link.events.tail })) ∧
    (∀ t (k : Fin 3) (p : Profile), s.link.tx = some t → t.source = .segment k → s.link.slots[k].profile = some p →
      exec .frameTransmitted s = .next (s.withLink
        (if isLastSegment (256 * 2 ^ s.effNat Param.maxPayload) p.points.length p.nextSegment then
          { s.link with tx := none, slots := s.link.slots.set k .free,
                        readyOrder := s.link.readyOrder.filter (· ≠ k) }
         else { s.link with tx := none,
                            slots := s.link.slots.set k (.sending { p with nextSegment := p.nextSegment + 1 }) }))) ∧
    (s.link.up = true → exec .recorderLinkUp s = .next s) ∧
    (s.link.up = false →
      (∀ xs, exec (.recorderLinkDown xs) s = .next s) ∧
      (∀ x : Symbol, x ≠ .idle → exec (.requestFrame [x]) s =
        .next (s.withLink { s.link with sync := { s.link.sync with idles := 0 } })) ∧
      (s.link.sync.idles < 2 → exec (.requestFrame [.idle]) s =
        .next (s.withLink { s.link with sync := { s.link.sync with idles := s.link.sync.idles + 1 } })) ∧
      (2 ≤ s.link.sync.idles → exec (.requestFrame [.idle]) s =
        .next (s.withLink { s.link with sync := { held := true, idles := 0, invalids := 0 } })) ∧
      (s.link.partFrame = none → exec .recorderLinkUp s =
        .next (s.withLink { s.link with sync := { held := true, idles := 0, invalids := 0 } }))) ∧
    (s.link.up = true →
      let down : RecorderLink :=
        { s.link with sync := { held := false, idles := 0, invalids := 0 }, partFrame := none, tx := none }
      (∀ xs, exec (.recorderLinkDown xs) s = exec (.requestFrame xs) s) ∧
      (s.link.sync.invalids < 3 → s.link.partFrame = none → exec (.recorderLinkDown [.invalid]) s =
        .next (s.withLink { s.link with sync := { s.link.sync with invalids := s.link.sync.invalids + 1 } })) ∧
      (s.link.partFrame = none →
        exec (.recorderLinkDown [.invalid, .invalid, .invalid, .invalid]) s = .next (s.withLink down)) ∧
      (s.link.partFrame.isSome = true → s.room 1 →
        exec (.recorderLinkDown [.invalid, .invalid, .invalid, .invalid]) s =
          .next ((s.withLink down).reported .reqCheck)) ∧
      (3 ≤ s.link.sync.invalids → s.link.partFrame.isSome = true → s.room 1 →
        exec (.requestFrame [.invalid]) s = .next ((s.withLink down).reported .reqCheck)))

/-- The segments of a profile, at max_payload code 0 to 3: the segment head, in segment 0 the 56 bytes of header and summary
field by field, then the points of 9 bytes; every segment fits and, but for the last, has no room for one point more; the
segments up to the last, the only one with the last flag, carry the points whole and in order (R162, R183, section 12.4). -/
def Obligations.SegmentsCarryProfile : Prop :=
  ∀ (p : Profile) (code : Nat), code ≤ 3 → p.points.length ≤ 4096 →
    let limit := 256 * 2 ^ code
    (∀ k, (p.segmentPayload limit k).length ≤ limit) ∧
    (∃ last, isLastSegment limit p.points.length last = true ∧
      (∀ k < last, isLastSegment limit p.points.length k = false ∧ limit < (p.segmentPayload limit k).length + 9) ∧
      (p.points = [] → last = 0) ∧ (p.points ≠ [] → p.segmentPoints limit last ≠ []) ∧
      (List.range (last + 1)).flatMap (p.segmentPoints limit) = p.points) ∧
    ∃ header : List Byte, header.length = 56 ∧
      (∀ k, p.segmentPayload limit k =
        leBytes 4 p.ring.sequence ++ leBytes 2 k ++ [BitVec.ofNat 8 (p.segmentPoints limit k).length] ++
          [if isLastSegment limit p.points.length k then 1 else 0] ++ (if k = 0 then header else []) ++
          (p.segmentPoints limit k).flatMap fun x =>
            leBytes 2 (x.angle + 16384 *
              (match x.judgement with | .clear => 0 | .warning => 1 | .infringing => 2 | .unguarded => 3)) ++
              leSigned 3 x.y ++ leSigned 3 x.z ++ [x.intensity]) ∧
      (∀ d, p.ring.spacing = some d → (header.drop 8).take 4 = leBytes 4 d) ∧
      ∀ field ∈ ([(0, leBytes 4 p.ring.sequence), (4, leSigned 4 p.ring.chainage),
          (12, [match p.ring.direction with | .forward => 0 | .reverse => 1]),
          (13, [match p.ring.slot with | some k => BitVec.ofNat 8 k.val | none => 0xFF]),
          (14, leBytes 2 (p.ring.segment.getD 0xFFFF)), (16, leBytes 2 p.ring.warnMargin),
          (18, [BitVec.ofNat 8 p.ring.decimation]), (19, [BitVec.ofNat 8 p.ring.stride]),
          (20, leBytes 2 ((if p.ring.spacedWide then 1 else 0) + (if p.truncated then 2 else 0) +
            (if p.ring.segment = none then 4 else 0) + (if p.ring.fixApplied then 8 else 0) +
            (if p.ring.spacing = none then 0 else 16))),
          (22, leBytes 4 p.ring.valid), (26, leBytes 4 p.ring.dropout), (30, leBytes 4 p.ring.outOfWindow),
          (34, leBytes 2 p.ring.framesMissing), (36, leBytes 2 p.points.length), (38, leBytes 2 p.skipped),
          (40, match p.summary.least with | some l => leSigned 4 l.clearance | none => [0, 0, 0, 0x80]),
          (44, match p.summary.least with | some l => leBytes 2 l.angle | none => [0xFF, 0xFF]),
          (46, leBytes 2 p.summary.unguarded), (48, leBytes 2 p.summary.unseen), (50, leBytes 2 p.summary.infringe),
          (52, leBytes 2 p.summary.warn), (54, leBytes 2 p.summary.clear)] : List (Nat × List Byte)),
        (header.drop field.1).take field.2.length = field.2

/-! ### Samples and sectors -/

/-- The stages of a sample: walk band 15 with SAT, else intensity div 16; the class by the first row that applies; the
coordinates by the sine table, whose printed entries and symmetries hold, rounded to nearest with halves away from zero, plus the offsets; the sector; the limit of
the ring's slot; the clearance and the judgement. With values in effect that their parameters admit, a valid sample's
corrected range lies in 1..65534 and its track-frame point in −98301..98300 and −65533..98300 (R25, R26, R27, R29, R30,
R31, R32, R33, R34, R35). -/
def Obligations.SampleStages : Prop :=
  (sine 0 = 0 ∧ sine 1 = 13 ∧ sine 2 = 25 ∧ sine 4 = 50 ∧ sine 1024 = 12539 ∧ sine 2048 = 23170 ∧ sine 4092 = 32767 ∧
    sine 4096 = 32767 ∧ sine 4616 = 32118 ∧ sine 8192 = 0 ∧ sine 8712 = -6491 ∧ sine 12284 = -32767 ∧
    sine 12288 = -32767 ∧ (∀ n ≤ 8192, sine (8192 - n) = sine n) ∧
    ∀ n < 8192, sine (n + 8192) = -sine n) ∧
  ∀ (s : State) (x : Sample) (theta : Nat),
    (walkBand x).val = (if x.sat then 15 else x.intensity.toNat / 16) ∧
    let sum := (x.range.toNat : Int) + s.eff Param.zeroOffset + s.eff (Param.walk (walkBand x))
    let c := max 0 (min 65535 sum)
    correctedRange (rangeSum s x) = c ∧
    validity s x =
      (if x.nr = true then .dropout
       else if x.mult = true ∧ s.eff Param.multiPolicy = 1 then .dropout
       else if sum < 0 ∨ 65535 < sum then .outOfWindow
       else if c = 0 then .outOfWindow
       else if c < s.eff Param.minRange ∨ s.eff Param.maxRange < c then .outOfWindow
       else .valid) ∧
    ∀ ring : RingContext, theta < 16384 →
      let v := solve s ring theta x
      let rounds (h product : Int) : Prop :=
        |2 * (32768 * h - product)| ≤ 32768 ∧
          (|2 * (32768 * h - product)| = 32768 → |product| < 32768 * |h|)
      let limit : Int := match ring.slot with | some k => (s.envelopes[k].live[v.sector]).toNat | none => 0
      rounds (v.point.y - s.eff Param.latOffset) (c * sine theta) ∧
      rounds (v.point.z - s.eff Param.heightOffset) (c * sine ((theta + 4096) % 16384)) ∧
      v.sector.val = theta / 64 ∧ v.point.angle = theta ∧ v.point.intensity = x.intensity ∧
      v.clearance = (if limit = 0 then none else some (c - limit)) ∧
      v.point.judgement =
        (if limit = 0 then .unguarded
         else if c < limit then .infringing
         else if c - limit < ring.warnMargin then .warning
         else .clear) ∧
      (s.EffectAdmitted → validity s x = .valid →
        1 ≤ c ∧ c ≤ 65534 ∧ -98301 ≤ v.point.y ∧ v.point.y ≤ 98300 ∧ -65533 ≤ v.point.z ∧ v.point.z ≤ 98300)

/-- One sector stepped on a verdict, the confirm attempt and the end of a pass. The step: streaks, the offer and
strike of an owned sector, releases (R59 to R65, R73, R74). The attempt: the candidates; with none an open, a block
with LATE and TABLE_FULL, or an eviction of the mildest; with one a join; with two a merge into the lower number
(R66, R67, R69, R70, R71, R72, R79, R80). The end: every intrusion that owns no sector closes (R76). The model's
choice: the counter's value 2^32 stands for the exhausted counter (log entry 21). -/
def Obligations.SectorStepped : Prop :=
  ∀ (e : PassEnv) (p : Pass) (i : Sector) (offer : Least) (any : Option Least),
    let fresh : Streak :=
      { startChainage := e.chainage, startRing := e.sequence, minClearance := offer.clearance, minAngle := offer.angle,
        minChainage := e.chainage, minRing := e.sequence, late := false }
    let lowered (st : Streak) : Streak :=
      if offer.clearance < st.minClearance then
        { st with minClearance := offer.clearance, minAngle := offer.angle, minChainage := e.chainage,
                  minRing := e.sequence }
      else st
    let sunk (x : Intrusion) (clearance : Int) (angle : Nat) (chainage : Int) (ring : Nat) : Intrusion :=
      if clearance < x.peakClearance then
        { x with peakClearance := clearance, peakAngle := angle, peakChainage := chainage, peakRing := ring }
      else x
    let struck (x : Intrusion) : Intrusion :=
      if x.struck then x
      else { x with struck := true
                    confirmedRings := if x.confirmedRings < 65535 then x.confirmedRings + 1 else x.confirmedRings }
    let offered (o : Nat) : Pass := p.modifyEntry o fun x =>
      struck (sunk x offer.clearance offer.angle e.chainage e.sequence)
    let released (o : Nat) (note : Bool) : Pass :=
      (p.modifyEntry o fun x => { x with owned := x.owned - 1, unguardedNote := note }).setSector i .clear
    (∀ o f, p.modifyEntry o f = { p with table := p.table.map fun x => if x.number = o then f x else x }) ∧
    (∀ x, p.setSector i x = { p with sectors := p.sectors.set i x }) ∧
    (∀ (x : Persistence) (o : Nat), x.owner = some o ↔ x = .confirmed o ∨ ∃ k, x = .releasing k o) ∧
    p.step e .unseen any i = p ∧
    (p.sectors[i] = .clear →
      p.step e .infringe (some offer) i = if 2 ≤ e.mOn then p.setSector i (.pending 1 fresh) else p.attempt e i fresh) ∧
    (∀ k st, p.sectors[i] = .pending k st →
      p.step e .infringe (some offer) i =
        if k + 1 < e.mOn then p.setSector i (.pending (k + 1) (lowered st)) else p.attempt e i (lowered st)) ∧
    (∀ st, p.sectors[i] = .blocked st → p.step e .infringe (some offer) i = p.attempt e i (lowered st)) ∧
    (∀ o, p.sectors[i] = .confirmed o → p.step e .infringe (some offer) i = offered o) ∧
    (∀ k o, p.sectors[i] = .releasing k o →
      p.step e .infringe (some offer) i = (offered o).setSector i (.confirmed o)) ∧
    (∀ v, v = .clear ∨ v = .warn ∨ v = .unguarded → p.sectors[i].owner = none →
      p.step e v any i = p.setSector i .clear) ∧
    (∀ v o, v = .clear ∨ v = .warn → p.sectors[i] = .confirmed o →
      p.step e v any i = if 2 ≤ e.mOff then p.setSector i (.releasing 1 o) else released o false) ∧
    (∀ v k o, v = .clear ∨ v = .warn → p.sectors[i] = .releasing k o →
      p.step e v any i = if k + 1 < e.mOff then p.setSector i (.releasing (k + 1) o) else released o false) ∧
    (∀ o, p.sectors[i].owner = some o → p.step e .unguarded any i = released o true) ∧
    (∀ x : Intrusion, x.contains i = true ↔ ∃ d < x.span, x.first + Fin.ofNat 256 d = i) ∧
    (∀ st : Streak,
      let near (x : Intrusion) : Prop :=
        x.contains i = true ∨ x.first = i + 1 ∨ x.first + Fin.ofNat 256 x.span = i
      let entry : Intrusion :=
        { number := p.counter, first := i, span := 1, openChainage := st.startChainage, openRing := st.startRing
          peakClearance := st.minClearance, peakAngle := st.minAngle, peakChainage := st.minChainage
          peakRing := st.minRing, confirmedRings := 1, slotAtOpen := e.slot, late := st.late, owned := 1, struck := true
          unguardedNote := false }
      let opened (q : Pass) : Pass :=
        { q with
          sectors := q.sectors.set i (.confirmed p.counter), table := q.table ++ [entry], counter := p.counter + 1
          out := q.out ++ [.record (.intrusionOpen entry e.chainage)] }
      let blocked : Pass :=
        { p with sectors := p.sectors.set i (.blocked { st with late := true }), out := p.out ++ [.cause .tableFull] }
      ((∀ x ∈ p.table, ¬ near x) →
        (p.counter ≤ Config.top32 → p.table.length < 16 → p.attempt e i st = opened p) ∧
        (Config.top32 < p.counter ∨ (16 ≤ p.table.length ∧ e.replace = false) → p.attempt e i st = blocked) ∧
        (p.counter ≤ Config.top32 → 16 ≤ p.table.length → e.replace = true → ∀ v ∈ p.table,
          (∀ x ∈ p.table, x = v ∨ x.peakClearance < v.peakClearance ∨
            (x.peakClearance = v.peakClearance ∧ x.number < v.number)) →
          p.attempt e i st =
            if st.minClearance < v.peakClearance then
              opened { p with
                table := p.table.filter fun x => x.number ≠ v.number
                sectors := p.sectors.map fun x => if x.owner = some v.number then .clear else x
                out := p.out ++ [.cause .tableFull,
                  .record (.intrusionClose v e.chainage e.sequence .evicted none)] }
            else blocked)) ∧
      ((p.table.map Intrusion.number).Pairwise (· < ·) →
        (∀ a ∈ p.table, near a → (∀ x ∈ p.table, near x → x = a) →
          let grown : Intrusion :=
            if a.contains i then a
            else if a.first = i + 1 then { a with first := i, span := a.span + 1 }
            else { a with span := a.span + 1 }
          p.attempt e i st = { p with
            sectors := p.sectors.set i (.confirmed a.number)
            table := p.table.map fun x =>
              if x.number = a.number then
                struck (sunk { grown with owned := a.owned + 1 } st.minClearance st.minAngle st.minChainage st.minRing)
              else x }) ∧
        ∀ a ∈ p.table, ∀ b ∈ p.table, a.number < b.number → near a → near b →
          (∀ x ∈ p.table, near x → x = a ∨ x = b) →
          let joined : Intrusion :=
            { a with
              first := if a.first + Fin.ofNat 256 a.span = i then a.first else b.first
              span := a.span + b.span + 1, owned := a.owned + b.owned + 1 }
          p.attempt e i st = { p with
            sectors := (p.sectors.map fun
              | .confirmed n => .confirmed (if n = b.number then a.number else n)
              | .releasing k n => .releasing k (if n = b.number then a.number else n)
              | x => x).set i (.confirmed a.number)
            table := (p.table.filter fun x => x.number ≠ b.number).map fun x =>
              if x.number = a.number then
                struck (sunk (sunk joined b.peakClearance b.peakAngle b.peakChainage b.peakRing) st.minClearance
                  st.minAngle st.minChainage st.minRing)
              else x
            out := p.out ++ [.record (.intrusionClose b e.chainage e.sequence .merged (some a.number))] })) ∧
    p.finish e = { p with
      table := p.table.filter fun x => x.owned ≠ 0
      out := p.out ++ (p.table.filter fun x => x.owned = 0).map fun x =>
        .record (.intrusionClose x e.chainage e.sequence (if x.unguardedNote then .unguarded else .released) none) }

end
end

