-- ==== Sys2Proof/Laws/State.lean ====
section
/-! SUPPORT. One lemma per field per update of State, so that no proof unfolds a record update. -/

namespace Sys2Proof.Machine

variable (s : State)

/-! ### withClock -/

@[simp] theorem State.withClock_clock (x : Clock) : (s.withClock x).clock = x := rfl
@[simp] theorem State.withClock_pins (x : Clock) : (s.withClock x).pins = s.pins := rfl
@[simp] theorem State.withClock_filters (x : Clock) : (s.withClock x).filters = s.filters := rfl
@[simp] theorem State.withClock_head (x : Clock) : (s.withClock x).head = s.head := rfl
@[simp] theorem State.withClock_ring (x : Clock) : (s.withClock x).ring = s.ring := rfl
@[simp] theorem State.withClock_params (x : Clock) : (s.withClock x).params = s.params := rfl
@[simp] theorem State.withClock_envelopes (x : Clock) : (s.withClock x).envelopes = s.envelopes := rfl
@[simp] theorem State.withClock_tracker (x : Clock) : (s.withClock x).tracker = s.tracker := rfl
@[simp] theorem State.withClock_odo (x : Clock) : (s.withClock x).odo = s.odo := rfl
@[simp] theorem State.withClock_route (x : Clock) : (s.withClock x).route = s.route := rfl
@[simp] theorem State.withClock_ctrl (x : Clock) : (s.withClock x).ctrl = s.ctrl := rfl
@[simp] theorem State.withClock_link (x : Clock) : (s.withClock x).link = s.link := rfl
@[simp] theorem State.withClock_causes (x : Clock) : (s.withClock x).causes = s.causes := rfl
@[simp] theorem State.withClock_freeIndex (x : Clock) : (s.withClock x).freeIndex = s.freeIndex := rfl
@[simp] theorem State.withClock_pending (x : Clock) : (s.withClock x).pending = s.pending := rfl

/-! ### withPins -/

@[simp] theorem State.withPins_clock (x : Pins) : (s.withPins x).clock = s.clock := rfl
@[simp] theorem State.withPins_pins (x : Pins) : (s.withPins x).pins = x := rfl
@[simp] theorem State.withPins_filters (x : Pins) : (s.withPins x).filters = s.filters := rfl
@[simp] theorem State.withPins_head (x : Pins) : (s.withPins x).head = s.head := rfl
@[simp] theorem State.withPins_ring (x : Pins) : (s.withPins x).ring = s.ring := rfl
@[simp] theorem State.withPins_params (x : Pins) : (s.withPins x).params = s.params := rfl
@[simp] theorem State.withPins_envelopes (x : Pins) : (s.withPins x).envelopes = s.envelopes := rfl
@[simp] theorem State.withPins_tracker (x : Pins) : (s.withPins x).tracker = s.tracker := rfl
@[simp] theorem State.withPins_odo (x : Pins) : (s.withPins x).odo = s.odo := rfl
@[simp] theorem State.withPins_route (x : Pins) : (s.withPins x).route = s.route := rfl
@[simp] theorem State.withPins_ctrl (x : Pins) : (s.withPins x).ctrl = s.ctrl := rfl
@[simp] theorem State.withPins_link (x : Pins) : (s.withPins x).link = s.link := rfl
@[simp] theorem State.withPins_causes (x : Pins) : (s.withPins x).causes = s.causes := rfl
@[simp] theorem State.withPins_freeIndex (x : Pins) : (s.withPins x).freeIndex = s.freeIndex := rfl
@[simp] theorem State.withPins_pending (x : Pins) : (s.withPins x).pending = s.pending := rfl

/-! ### withFilters -/

@[simp] theorem State.withFilters_clock (x : Filters) : (s.withFilters x).clock = s.clock := rfl
@[simp] theorem State.withFilters_pins (x : Filters) : (s.withFilters x).pins = s.pins := rfl
@[simp] theorem State.withFilters_filters (x : Filters) : (s.withFilters x).filters = x := rfl
@[simp] theorem State.withFilters_head (x : Filters) : (s.withFilters x).head = s.head := rfl
@[simp] theorem State.withFilters_ring (x : Filters) : (s.withFilters x).ring = s.ring := rfl
@[simp] theorem State.withFilters_params (x : Filters) : (s.withFilters x).params = s.params := rfl
@[simp] theorem State.withFilters_envelopes (x : Filters) : (s.withFilters x).envelopes = s.envelopes := rfl
@[simp] theorem State.withFilters_tracker (x : Filters) : (s.withFilters x).tracker = s.tracker := rfl
@[simp] theorem State.withFilters_odo (x : Filters) : (s.withFilters x).odo = s.odo := rfl
@[simp] theorem State.withFilters_route (x : Filters) : (s.withFilters x).route = s.route := rfl
@[simp] theorem State.withFilters_ctrl (x : Filters) : (s.withFilters x).ctrl = s.ctrl := rfl
@[simp] theorem State.withFilters_link (x : Filters) : (s.withFilters x).link = s.link := rfl
@[simp] theorem State.withFilters_causes (x : Filters) : (s.withFilters x).causes = s.causes := rfl
@[simp] theorem State.withFilters_freeIndex (x : Filters) : (s.withFilters x).freeIndex = s.freeIndex := rfl
@[simp] theorem State.withFilters_pending (x : Filters) : (s.withFilters x).pending = s.pending := rfl

/-! ### withHead -/

@[simp] theorem State.withHead_clock (x : HeadLink) : (s.withHead x).clock = s.clock := rfl
@[simp] theorem State.withHead_pins (x : HeadLink) : (s.withHead x).pins = s.pins := rfl
@[simp] theorem State.withHead_filters (x : HeadLink) : (s.withHead x).filters = s.filters := rfl
@[simp] theorem State.withHead_head (x : HeadLink) : (s.withHead x).head = x := rfl
@[simp] theorem State.withHead_ring (x : HeadLink) : (s.withHead x).ring = s.ring := rfl
@[simp] theorem State.withHead_params (x : HeadLink) : (s.withHead x).params = s.params := rfl
@[simp] theorem State.withHead_envelopes (x : HeadLink) : (s.withHead x).envelopes = s.envelopes := rfl
@[simp] theorem State.withHead_tracker (x : HeadLink) : (s.withHead x).tracker = s.tracker := rfl
@[simp] theorem State.withHead_odo (x : HeadLink) : (s.withHead x).odo = s.odo := rfl
@[simp] theorem State.withHead_route (x : HeadLink) : (s.withHead x).route = s.route := rfl
@[simp] theorem State.withHead_ctrl (x : HeadLink) : (s.withHead x).ctrl = s.ctrl := rfl
@[simp] theorem State.withHead_link (x : HeadLink) : (s.withHead x).link = s.link := rfl
@[simp] theorem State.withHead_causes (x : HeadLink) : (s.withHead x).causes = s.causes := rfl
@[simp] theorem State.withHead_freeIndex (x : HeadLink) : (s.withHead x).freeIndex = s.freeIndex := rfl
@[simp] theorem State.withHead_pending (x : HeadLink) : (s.withHead x).pending = s.pending := rfl

/-! ### withRing -/

@[simp] theorem State.withRing_clock (x : RingAssembler) : (s.withRing x).clock = s.clock := rfl
@[simp] theorem State.withRing_pins (x : RingAssembler) : (s.withRing x).pins = s.pins := rfl
@[simp] theorem State.withRing_filters (x : RingAssembler) : (s.withRing x).filters = s.filters := rfl
@[simp] theorem State.withRing_head (x : RingAssembler) : (s.withRing x).head = s.head := rfl
@[simp] theorem State.withRing_ring (x : RingAssembler) : (s.withRing x).ring = x := rfl
@[simp] theorem State.withRing_params (x : RingAssembler) : (s.withRing x).params = s.params := rfl
@[simp] theorem State.withRing_envelopes (x : RingAssembler) : (s.withRing x).envelopes = s.envelopes := rfl
@[simp] theorem State.withRing_tracker (x : RingAssembler) : (s.withRing x).tracker = s.tracker := rfl
@[simp] theorem State.withRing_odo (x : RingAssembler) : (s.withRing x).odo = s.odo := rfl
@[simp] theorem State.withRing_route (x : RingAssembler) : (s.withRing x).route = s.route := rfl
@[simp] theorem State.withRing_ctrl (x : RingAssembler) : (s.withRing x).ctrl = s.ctrl := rfl
@[simp] theorem State.withRing_link (x : RingAssembler) : (s.withRing x).link = s.link := rfl
@[simp] theorem State.withRing_causes (x : RingAssembler) : (s.withRing x).causes = s.causes := rfl
@[simp] theorem State.withRing_freeIndex (x : RingAssembler) : (s.withRing x).freeIndex = s.freeIndex := rfl
@[simp] theorem State.withRing_pending (x : RingAssembler) : (s.withRing x).pending = s.pending := rfl

/-! ### withParams -/

@[simp] theorem State.withParams_clock (x : ParamStore) : (s.withParams x).clock = s.clock := rfl
@[simp] theorem State.withParams_pins (x : ParamStore) : (s.withParams x).pins = s.pins := rfl
@[simp] theorem State.withParams_filters (x : ParamStore) : (s.withParams x).filters = s.filters := rfl
@[simp] theorem State.withParams_head (x : ParamStore) : (s.withParams x).head = s.head := rfl
@[simp] theorem State.withParams_ring (x : ParamStore) : (s.withParams x).ring = s.ring := rfl
@[simp] theorem State.withParams_params (x : ParamStore) : (s.withParams x).params = x := rfl
@[simp] theorem State.withParams_envelopes (x : ParamStore) : (s.withParams x).envelopes = s.envelopes := rfl
@[simp] theorem State.withParams_tracker (x : ParamStore) : (s.withParams x).tracker = s.tracker := rfl
@[simp] theorem State.withParams_odo (x : ParamStore) : (s.withParams x).odo = s.odo := rfl
@[simp] theorem State.withParams_route (x : ParamStore) : (s.withParams x).route = s.route := rfl
@[simp] theorem State.withParams_ctrl (x : ParamStore) : (s.withParams x).ctrl = s.ctrl := rfl
@[simp] theorem State.withParams_link (x : ParamStore) : (s.withParams x).link = s.link := rfl
@[simp] theorem State.withParams_causes (x : ParamStore) : (s.withParams x).causes = s.causes := rfl
@[simp] theorem State.withParams_freeIndex (x : ParamStore) : (s.withParams x).freeIndex = s.freeIndex := rfl
@[simp] theorem State.withParams_pending (x : ParamStore) : (s.withParams x).pending = s.pending := rfl

/-! ### withEnvelopes -/

@[simp] theorem State.withEnvelopes_clock (x : Vector EnvelopeSlot 8) : (s.withEnvelopes x).clock = s.clock := rfl
@[simp] theorem State.withEnvelopes_pins (x : Vector EnvelopeSlot 8) : (s.withEnvelopes x).pins = s.pins := rfl
@[simp] theorem State.withEnvelopes_filters (x : Vector EnvelopeSlot 8) : (s.withEnvelopes x).filters = s.filters := rfl
@[simp] theorem State.withEnvelopes_head (x : Vector EnvelopeSlot 8) : (s.withEnvelopes x).head = s.head := rfl
@[simp] theorem State.withEnvelopes_ring (x : Vector EnvelopeSlot 8) : (s.withEnvelopes x).ring = s.ring := rfl
@[simp] theorem State.withEnvelopes_params (x : Vector EnvelopeSlot 8) : (s.withEnvelopes x).params = s.params := rfl
@[simp] theorem State.withEnvelopes_envelopes (x : Vector EnvelopeSlot 8) : (s.withEnvelopes x).envelopes = x := rfl
@[simp] theorem State.withEnvelopes_tracker (x : Vector EnvelopeSlot 8) : (s.withEnvelopes x).tracker = s.tracker := rfl
@[simp] theorem State.withEnvelopes_odo (x : Vector EnvelopeSlot 8) : (s.withEnvelopes x).odo = s.odo := rfl
@[simp] theorem State.withEnvelopes_route (x : Vector EnvelopeSlot 8) : (s.withEnvelopes x).route = s.route := rfl
@[simp] theorem State.withEnvelopes_ctrl (x : Vector EnvelopeSlot 8) : (s.withEnvelopes x).ctrl = s.ctrl := rfl
@[simp] theorem State.withEnvelopes_link (x : Vector EnvelopeSlot 8) : (s.withEnvelopes x).link = s.link := rfl
@[simp] theorem State.withEnvelopes_causes (x : Vector EnvelopeSlot 8) : (s.withEnvelopes x).causes = s.causes := rfl
@[simp] theorem State.withEnvelopes_freeIndex (x : Vector EnvelopeSlot 8) : (s.withEnvelopes x).freeIndex = s.freeIndex := rfl
@[simp] theorem State.withEnvelopes_pending (x : Vector EnvelopeSlot 8) : (s.withEnvelopes x).pending = s.pending := rfl

/-! ### withTracker -/

@[simp] theorem State.withTracker_clock (x : SectorTracker) : (s.withTracker x).clock = s.clock := rfl
@[simp] theorem State.withTracker_pins (x : SectorTracker) : (s.withTracker x).pins = s.pins := rfl
@[simp] theorem State.withTracker_filters (x : SectorTracker) : (s.withTracker x).filters = s.filters := rfl
@[simp] theorem State.withTracker_head (x : SectorTracker) : (s.withTracker x).head = s.head := rfl
@[simp] theorem State.withTracker_ring (x : SectorTracker) : (s.withTracker x).ring = s.ring := rfl
@[simp] theorem State.withTracker_params (x : SectorTracker) : (s.withTracker x).params = s.params := rfl
@[simp] theorem State.withTracker_envelopes (x : SectorTracker) : (s.withTracker x).envelopes = s.envelopes := rfl
@[simp] theorem State.withTracker_tracker (x : SectorTracker) : (s.withTracker x).tracker = x := rfl
@[simp] theorem State.withTracker_odo (x : SectorTracker) : (s.withTracker x).odo = s.odo := rfl
@[simp] theorem State.withTracker_route (x : SectorTracker) : (s.withTracker x).route = s.route := rfl
@[simp] theorem State.withTracker_ctrl (x : SectorTracker) : (s.withTracker x).ctrl = s.ctrl := rfl
@[simp] theorem State.withTracker_link (x : SectorTracker) : (s.withTracker x).link = s.link := rfl
@[simp] theorem State.withTracker_causes (x : SectorTracker) : (s.withTracker x).causes = s.causes := rfl
@[simp] theorem State.withTracker_freeIndex (x : SectorTracker) : (s.withTracker x).freeIndex = s.freeIndex := rfl
@[simp] theorem State.withTracker_pending (x : SectorTracker) : (s.withTracker x).pending = s.pending := rfl

/-! ### withOdo -/

@[simp] theorem State.withOdo_clock (x : Odometer) : (s.withOdo x).clock = s.clock := rfl
@[simp] theorem State.withOdo_pins (x : Odometer) : (s.withOdo x).pins = s.pins := rfl
@[simp] theorem State.withOdo_filters (x : Odometer) : (s.withOdo x).filters = s.filters := rfl
@[simp] theorem State.withOdo_head (x : Odometer) : (s.withOdo x).head = s.head := rfl
@[simp] theorem State.withOdo_ring (x : Odometer) : (s.withOdo x).ring = s.ring := rfl
@[simp] theorem State.withOdo_params (x : Odometer) : (s.withOdo x).params = s.params := rfl
@[simp] theorem State.withOdo_envelopes (x : Odometer) : (s.withOdo x).envelopes = s.envelopes := rfl
@[simp] theorem State.withOdo_tracker (x : Odometer) : (s.withOdo x).tracker = s.tracker := rfl
@[simp] theorem State.withOdo_odo (x : Odometer) : (s.withOdo x).odo = x := rfl
@[simp] theorem State.withOdo_route (x : Odometer) : (s.withOdo x).route = s.route := rfl
@[simp] theorem State.withOdo_ctrl (x : Odometer) : (s.withOdo x).ctrl = s.ctrl := rfl
@[simp] theorem State.withOdo_link (x : Odometer) : (s.withOdo x).link = s.link := rfl
@[simp] theorem State.withOdo_causes (x : Odometer) : (s.withOdo x).causes = s.causes := rfl
@[simp] theorem State.withOdo_freeIndex (x : Odometer) : (s.withOdo x).freeIndex = s.freeIndex := rfl
@[simp] theorem State.withOdo_pending (x : Odometer) : (s.withOdo x).pending = s.pending := rfl

/-! ### withRoute -/

@[simp] theorem State.withRoute_clock (x : RouteUnit) : (s.withRoute x).clock = s.clock := rfl
@[simp] theorem State.withRoute_pins (x : RouteUnit) : (s.withRoute x).pins = s.pins := rfl
@[simp] theorem State.withRoute_filters (x : RouteUnit) : (s.withRoute x).filters = s.filters := rfl
@[simp] theorem State.withRoute_head (x : RouteUnit) : (s.withRoute x).head = s.head := rfl
@[simp] theorem State.withRoute_ring (x : RouteUnit) : (s.withRoute x).ring = s.ring := rfl
@[simp] theorem State.withRoute_params (x : RouteUnit) : (s.withRoute x).params = s.params := rfl
@[simp] theorem State.withRoute_envelopes (x : RouteUnit) : (s.withRoute x).envelopes = s.envelopes := rfl
@[simp] theorem State.withRoute_tracker (x : RouteUnit) : (s.withRoute x).tracker = s.tracker := rfl
@[simp] theorem State.withRoute_odo (x : RouteUnit) : (s.withRoute x).odo = s.odo := rfl
@[simp] theorem State.withRoute_route (x : RouteUnit) : (s.withRoute x).route = x := rfl
@[simp] theorem State.withRoute_ctrl (x : RouteUnit) : (s.withRoute x).ctrl = s.ctrl := rfl
@[simp] theorem State.withRoute_link (x : RouteUnit) : (s.withRoute x).link = s.link := rfl
@[simp] theorem State.withRoute_causes (x : RouteUnit) : (s.withRoute x).causes = s.causes := rfl
@[simp] theorem State.withRoute_freeIndex (x : RouteUnit) : (s.withRoute x).freeIndex = s.freeIndex := rfl
@[simp] theorem State.withRoute_pending (x : RouteUnit) : (s.withRoute x).pending = s.pending := rfl

/-! ### withCtrl -/

@[simp] theorem State.withCtrl_clock (x : RunController) : (s.withCtrl x).clock = s.clock := rfl
@[simp] theorem State.withCtrl_pins (x : RunController) : (s.withCtrl x).pins = s.pins := rfl
@[simp] theorem State.withCtrl_filters (x : RunController) : (s.withCtrl x).filters = s.filters := rfl
@[simp] theorem State.withCtrl_head (x : RunController) : (s.withCtrl x).head = s.head := rfl
@[simp] theorem State.withCtrl_ring (x : RunController) : (s.withCtrl x).ring = s.ring := rfl
@[simp] theorem State.withCtrl_params (x : RunController) : (s.withCtrl x).params = s.params := rfl
@[simp] theorem State.withCtrl_envelopes (x : RunController) : (s.withCtrl x).envelopes = s.envelopes := rfl
@[simp] theorem State.withCtrl_tracker (x : RunController) : (s.withCtrl x).tracker = s.tracker := rfl
@[simp] theorem State.withCtrl_odo (x : RunController) : (s.withCtrl x).odo = s.odo := rfl
@[simp] theorem State.withCtrl_route (x : RunController) : (s.withCtrl x).route = s.route := rfl
@[simp] theorem State.withCtrl_ctrl (x : RunController) : (s.withCtrl x).ctrl = x := rfl
@[simp] theorem State.withCtrl_link (x : RunController) : (s.withCtrl x).link = s.link := rfl
@[simp] theorem State.withCtrl_causes (x : RunController) : (s.withCtrl x).causes = s.causes := rfl
@[simp] theorem State.withCtrl_freeIndex (x : RunController) : (s.withCtrl x).freeIndex = s.freeIndex := rfl
@[simp] theorem State.withCtrl_pending (x : RunController) : (s.withCtrl x).pending = s.pending := rfl

/-! ### withLink -/

@[simp] theorem State.withLink_clock (x : RecorderLink) : (s.withLink x).clock = s.clock := rfl
@[simp] theorem State.withLink_pins (x : RecorderLink) : (s.withLink x).pins = s.pins := rfl
@[simp] theorem State.withLink_filters (x : RecorderLink) : (s.withLink x).filters = s.filters := rfl
@[simp] theorem State.withLink_head (x : RecorderLink) : (s.withLink x).head = s.head := rfl
@[simp] theorem State.withLink_ring (x : RecorderLink) : (s.withLink x).ring = s.ring := rfl
@[simp] theorem State.withLink_params (x : RecorderLink) : (s.withLink x).params = s.params := rfl
@[simp] theorem State.withLink_envelopes (x : RecorderLink) : (s.withLink x).envelopes = s.envelopes := rfl
@[simp] theorem State.withLink_tracker (x : RecorderLink) : (s.withLink x).tracker = s.tracker := rfl
@[simp] theorem State.withLink_odo (x : RecorderLink) : (s.withLink x).odo = s.odo := rfl
@[simp] theorem State.withLink_route (x : RecorderLink) : (s.withLink x).route = s.route := rfl
@[simp] theorem State.withLink_ctrl (x : RecorderLink) : (s.withLink x).ctrl = s.ctrl := rfl
@[simp] theorem State.withLink_link (x : RecorderLink) : (s.withLink x).link = x := rfl
@[simp] theorem State.withLink_causes (x : RecorderLink) : (s.withLink x).causes = s.causes := rfl
@[simp] theorem State.withLink_freeIndex (x : RecorderLink) : (s.withLink x).freeIndex = s.freeIndex := rfl
@[simp] theorem State.withLink_pending (x : RecorderLink) : (s.withLink x).pending = s.pending := rfl

/-! ### withCauses -/

@[simp] theorem State.withCauses_clock (x : BitVec 25) : (s.withCauses x).clock = s.clock := rfl
@[simp] theorem State.withCauses_pins (x : BitVec 25) : (s.withCauses x).pins = s.pins := rfl
@[simp] theorem State.withCauses_filters (x : BitVec 25) : (s.withCauses x).filters = s.filters := rfl
@[simp] theorem State.withCauses_head (x : BitVec 25) : (s.withCauses x).head = s.head := rfl
@[simp] theorem State.withCauses_ring (x : BitVec 25) : (s.withCauses x).ring = s.ring := rfl
@[simp] theorem State.withCauses_params (x : BitVec 25) : (s.withCauses x).params = s.params := rfl
@[simp] theorem State.withCauses_envelopes (x : BitVec 25) : (s.withCauses x).envelopes = s.envelopes := rfl
@[simp] theorem State.withCauses_tracker (x : BitVec 25) : (s.withCauses x).tracker = s.tracker := rfl
@[simp] theorem State.withCauses_odo (x : BitVec 25) : (s.withCauses x).odo = s.odo := rfl
@[simp] theorem State.withCauses_route (x : BitVec 25) : (s.withCauses x).route = s.route := rfl
@[simp] theorem State.withCauses_ctrl (x : BitVec 25) : (s.withCauses x).ctrl = s.ctrl := rfl
@[simp] theorem State.withCauses_link (x : BitVec 25) : (s.withCauses x).link = s.link := rfl
@[simp] theorem State.withCauses_causes (x : BitVec 25) : (s.withCauses x).causes = x := rfl
@[simp] theorem State.withCauses_freeIndex (x : BitVec 25) : (s.withCauses x).freeIndex = s.freeIndex := rfl
@[simp] theorem State.withCauses_pending (x : BitVec 25) : (s.withCauses x).pending = s.pending := rfl

/-! ### withFreeIndex -/

@[simp] theorem State.withFreeIndex_clock (x : Nat) : (s.withFreeIndex x).clock = s.clock := rfl
@[simp] theorem State.withFreeIndex_pins (x : Nat) : (s.withFreeIndex x).pins = s.pins := rfl
@[simp] theorem State.withFreeIndex_filters (x : Nat) : (s.withFreeIndex x).filters = s.filters := rfl
@[simp] theorem State.withFreeIndex_head (x : Nat) : (s.withFreeIndex x).head = s.head := rfl
@[simp] theorem State.withFreeIndex_ring (x : Nat) : (s.withFreeIndex x).ring = s.ring := rfl
@[simp] theorem State.withFreeIndex_params (x : Nat) : (s.withFreeIndex x).params = s.params := rfl
@[simp] theorem State.withFreeIndex_envelopes (x : Nat) : (s.withFreeIndex x).envelopes = s.envelopes := rfl
@[simp] theorem State.withFreeIndex_tracker (x : Nat) : (s.withFreeIndex x).tracker = s.tracker := rfl
@[simp] theorem State.withFreeIndex_odo (x : Nat) : (s.withFreeIndex x).odo = s.odo := rfl
@[simp] theorem State.withFreeIndex_route (x : Nat) : (s.withFreeIndex x).route = s.route := rfl
@[simp] theorem State.withFreeIndex_ctrl (x : Nat) : (s.withFreeIndex x).ctrl = s.ctrl := rfl
@[simp] theorem State.withFreeIndex_link (x : Nat) : (s.withFreeIndex x).link = s.link := rfl
@[simp] theorem State.withFreeIndex_causes (x : Nat) : (s.withFreeIndex x).causes = s.causes := rfl
@[simp] theorem State.withFreeIndex_freeIndex (x : Nat) : (s.withFreeIndex x).freeIndex = x := rfl
@[simp] theorem State.withFreeIndex_pending (x : Nat) : (s.withFreeIndex x).pending = s.pending := rfl

/-! ### withPending -/

@[simp] theorem State.withPending_clock (x : List Instr) : (s.withPending x).clock = s.clock := rfl
@[simp] theorem State.withPending_pins (x : List Instr) : (s.withPending x).pins = s.pins := rfl
@[simp] theorem State.withPending_filters (x : List Instr) : (s.withPending x).filters = s.filters := rfl
@[simp] theorem State.withPending_head (x : List Instr) : (s.withPending x).head = s.head := rfl
@[simp] theorem State.withPending_ring (x : List Instr) : (s.withPending x).ring = s.ring := rfl
@[simp] theorem State.withPending_params (x : List Instr) : (s.withPending x).params = s.params := rfl
@[simp] theorem State.withPending_envelopes (x : List Instr) : (s.withPending x).envelopes = s.envelopes := rfl
@[simp] theorem State.withPending_tracker (x : List Instr) : (s.withPending x).tracker = s.tracker := rfl
@[simp] theorem State.withPending_odo (x : List Instr) : (s.withPending x).odo = s.odo := rfl
@[simp] theorem State.withPending_route (x : List Instr) : (s.withPending x).route = s.route := rfl
@[simp] theorem State.withPending_ctrl (x : List Instr) : (s.withPending x).ctrl = s.ctrl := rfl
@[simp] theorem State.withPending_link (x : List Instr) : (s.withPending x).link = s.link := rfl
@[simp] theorem State.withPending_causes (x : List Instr) : (s.withPending x).causes = s.causes := rfl
@[simp] theorem State.withPending_freeIndex (x : List Instr) : (s.withPending x).freeIndex = s.freeIndex := rfl
@[simp] theorem State.withPending_pending (x : List Instr) : (s.withPending x).pending = x := rfl

/-! ### Work -/

@[simp] theorem Work.of_st : (Work.of s).st = s := rfl
@[simp] theorem Work.of_fatal : (Work.of s).fatal = none := rfl
@[simp] theorem Work.modify_st (w : Work) (f : State → State) : (w.modify f).st = f w.st := rfl
@[simp] theorem Work.modify_fatal (w : Work) (f : State → State) : (w.modify f).fatal = w.fatal := rfl

end Sys2Proof.Machine
end

