-- ==== Sys2Proof/Laws/Ops.lean ====
section
/-! SUPPORT. What the shared operations do, said once: queueing, raising, taking a fatal cause, performing and answering a
request. A step under way is written as its two parts, so that these lemmas rewrite it from the inside out. -/

namespace Sys2Proof.Machine

/-! ### Steps under way -/

theorem Work.of_eq (s : State) : Work.of s = { st := s, fatal := none } := rfl
@[simp] theorem Work.modify_mk (s : State) (c : Option Cause) (f : State → State) :
    (Work.mk s c).modify f = { st := f s, fatal := c } := rfl
@[simp] theorem Work.settle_mk (s : State) : (Work.mk s none).settle = { st := s, fatal := none } := rfl
@[simp] theorem Work.done_mk (s : State) : (Work.mk s none).done = .next s := rfl
/-- Every meaning that ends in `done` answers a next state. -/
theorem Work.done_eq (w : Work) : w.done = .next w.settle.st := rfl
@[simp] theorem Work.raiseIf_true (w : Work) (c : Cause) : w.raiseIf true c = w.raise c := rfl
@[simp] theorem Work.raiseIf_false (w : Work) (c : Cause) : w.raiseIf false c = w := rfl

/-! ### What a report leaves alone -/

section
variable (s : State) (b : EventBody) (c : Cause)

@[simp] theorem State.recorded_clock : (s.recorded b).clock = s.clock := rfl
@[simp] theorem State.recorded_pins : (s.recorded b).pins = s.pins := rfl
@[simp] theorem State.recorded_filters : (s.recorded b).filters = s.filters := rfl
@[simp] theorem State.recorded_head : (s.recorded b).head = s.head := rfl
@[simp] theorem State.recorded_ring : (s.recorded b).ring = s.ring := rfl
@[simp] theorem State.recorded_params : (s.recorded b).params = s.params := rfl
@[simp] theorem State.recorded_envelopes : (s.recorded b).envelopes = s.envelopes := rfl
@[simp] theorem State.recorded_tracker : (s.recorded b).tracker = s.tracker := rfl
@[simp] theorem State.recorded_odo : (s.recorded b).odo = s.odo := rfl
@[simp] theorem State.recorded_route : (s.recorded b).route = s.route := rfl
@[simp] theorem State.recorded_ctrl : (s.recorded b).ctrl = s.ctrl := rfl
@[simp] theorem State.recorded_causes : (s.recorded b).causes = s.causes := rfl
@[simp] theorem State.recorded_freeIndex : (s.recorded b).freeIndex = s.freeIndex := rfl
@[simp] theorem State.recorded_pending : (s.recorded b).pending = s.pending := rfl

/-- A report changes the event queue and the cause set alone. -/
theorem State.reported_frame :
    s.reported c = { s with causes := (s.reported c).causes,
                            link := { s.link with events := (s.reported c).link.events } } := by
  unfold State.reported
  split
  · rfl
  · split <;> rfl

@[simp] theorem State.reported_clock : (s.reported c).clock = s.clock := by rw [State.reported_frame]
@[simp] theorem State.reported_pins : (s.reported c).pins = s.pins := by rw [State.reported_frame]
@[simp] theorem State.reported_filters : (s.reported c).filters = s.filters := by rw [State.reported_frame]
@[simp] theorem State.reported_head : (s.reported c).head = s.head := by rw [State.reported_frame]
@[simp] theorem State.reported_ring : (s.reported c).ring = s.ring := by rw [State.reported_frame]
@[simp] theorem State.reported_params : (s.reported c).params = s.params := by rw [State.reported_frame]
@[simp] theorem State.reported_envelopes : (s.reported c).envelopes = s.envelopes := by rw [State.reported_frame]
@[simp] theorem State.reported_tracker : (s.reported c).tracker = s.tracker := by rw [State.reported_frame]
@[simp] theorem State.reported_odo : (s.reported c).odo = s.odo := by rw [State.reported_frame]
@[simp] theorem State.reported_route : (s.reported c).route = s.route := by rw [State.reported_frame]
@[simp] theorem State.reported_ctrl : (s.reported c).ctrl = s.ctrl := by rw [State.reported_frame]
@[simp] theorem State.reported_freeIndex : (s.reported c).freeIndex = s.freeIndex := by rw [State.reported_frame]
@[simp] theorem State.reported_pending : (s.reported c).pending = s.pending := by rw [State.reported_frame]

/-- A report queues at most one record. -/
theorem State.reported_room {n : Nat} (h : s.room (n + 1)) : (s.reported c).room n := by
  unfold State.room at *
  unfold State.reported
  split
  · omega
  · split
    · simp only [State.recorded, State.withLink_link, State.withCauses_link, List.length_append, List.length_singleton]
      omega
    · simp only [State.withCauses_link]
      omega

theorem State.recorded_room {n : Nat} (h : s.room (n + 1)) : (s.recorded b).room n := by
  unfold State.room at *
  simp only [State.recorded, State.withLink_link, List.length_append, List.length_singleton]
  omega

/-- After a report the flag is set. -/
theorem State.reported_flag : flagSet (s.reported c).causes c = true := by
  have set_flag : ∀ x : BitVec 25, flagSet (setFlag x c) c = true := by
    intro x
    simp only [flagSet, setFlag, BitVec.getLsbD_or]
    cases c <;> simp [Cause.bit]
  unfold State.reported
  split
  · assumption
  · split <;> exact set_flag _

end

theorem State.room_mono {s : State} {m n : Nat} (h : s.room n) (hm : m ≤ n) : s.room m := by
  unfold State.room at *
  omega

/-! ### Queueing and raising -/

theorem Work.queue_mk {s : State} {f : Option Cause} (b : EventBody) (h : s.room 1) :
    (Work.mk s f).queue b = { st := s.recorded b, fatal := f } := by
  have h' : s.link.events.length < Config.maxEvents := h
  simp [Work.queue, h', State.recorded]

theorem Work.queue_full {w : Work} (b : EventBody) (h : ¬ w.st.room 1) : w.queue b = w.lose := by
  have h' : ¬ w.st.link.events.length < Config.maxEvents := h
  simp [Work.queue, h']

theorem Work.raise_of_set {w : Work} {c : Cause} (hc : c.cls ≠ .fatal) (h : flagSet w.st.causes c = true) :
    w.raise c = w := by
  simp [Work.raise, hc, h]

theorem Work.raise_mk {s : State} {f : Option Cause} {c : Cause} (hc : c.cls ≠ .fatal) (h : s.room 1) :
    (Work.mk s f).raise c = { st := s.reported c, fatal := f } := by
  by_cases hf : flagSet s.causes c = true
  · rw [Work.raise_of_set hc hf, State.reported, if_pos hf]
  · simp only [Work.raise, if_neg hc, if_neg hf, State.reported, Work.modify_mk]
    by_cases he : s.reports c.cls = true
    · rw [if_pos he, if_pos (show (s.withCauses (setFlag s.causes c)).reports c.cls = true from he),
        Work.queue_mk _ (show (s.withCauses (setFlag s.causes c)).room 1 from h)]
      rfl
    · rw [if_neg he, if_neg (show ¬ (s.withCauses (setFlag s.causes c)).reports c.cls = true from he)]

/-! ### Performing and answering a request -/

theorem kindOf_code (k : RequestKind) : kindOf k.code = some k := by cases k <;> decide

/-- A request the Agent takes is performed by its own row (R167). -/
theorem perform_of_offers {s : State} {k : RequestKind} {r : Request} {rest : List Request}
    {body : Request → Work → Work} (h : s.Offers k r rest) :
    perform k.only body s =
      (body r { st := s.withLink { s.link with requests := rest }, fatal := none }).done := by
  have hp : s.link.responses.length < Config.maxResponses := h.place
  simp [perform, State.takes, h.queue, RecorderLink.ready, h.free, hp, h.kind, kindOf_code, RequestKind.only,
    State.dropRequest, Work.of_eq]

/-- With no request of the row's kinds to take, a request row changes nothing. -/
theorem perform_of_none {s : State} {serves : Option RequestKind → Bool} {body : Request → Work → Work}
    (h : s.takes serves = none) : perform serves body s = .next s := by
  simp [perform, h]

/-- DONE, for a request whose performing left the links alone. -/
theorem Work.finish_done (s : State) (r : Request) (rest : List Request) (payload : List Byte) :
    ((Work.mk (s.withLink { s.link with requests := rest }) none).finish r payload).done =
      .next (s.answered rest (doneTo r payload)) := rfl

/-- The bytes a refusal's index takes. -/
def indexBytes : Option Nat → List Byte
  | some i => leBytes 2 i
  | none => []

/-- A refusal with room for its NOTICE. -/
theorem Work.refuse_done {s : State} {r : Request} {rest : List Request} {why : Reason} {index : Option Nat}
    (h : s.room 1) :
    ((Work.mk (s.withLink { s.link with requests := rest }) none).refuse r why index).done =
      .next ((s.reported why.cause).answered rest (refusedTo r why (indexBytes index))) := by
  have hc : why.cause.cls ≠ .fatal := by cases why <;> decide
  unfold Work.refuse
  rw [Work.raise_mk hc (show (s.withLink { s.link with requests := rest }).room 1 from h)]
  unfold State.reported
  by_cases hf : flagSet s.causes why.cause = true
  · rw [if_pos hf, if_pos (show flagSet (s.withLink { s.link with requests := rest }).causes why.cause = true from hf)]
    cases index <;> rfl
  · rw [if_neg hf,
      if_neg (show ¬ flagSet (s.withLink { s.link with requests := rest }).causes why.cause = true from hf)]
    by_cases he : s.reports why.cause.cls = true
    · rw [if_pos he, if_pos (show (s.withLink { s.link with requests := rest }).reports why.cause.cls = true from he)]
      cases index <;> rfl
    · rw [if_neg he,
        if_neg (show ¬ (s.withLink { s.link with requests := rest }).reports why.cause.cls = true from he)]
      cases index <;> rfl

end Sys2Proof.Machine
end

