-- ==== Sys2Proof/Laws/Reports.lean ====
section
/-! SUPPORT. Queueing records and raising causes change the event queue and the cause set alone, however many of them
there are and whether or not the queue has room. -/

namespace Sys2Proof.Machine

/-- From `s` to `t` only records were queued or lost and causes raised. -/
structure State.Reports (s t : State) : Prop where
  frame : t = { s with causes := t.causes, link := { s.link with events := t.link.events } }
  bound : t.link.events.length ≤ max s.link.events.length Config.maxEvents
  flags : ∀ c : Cause, flagSet s.causes c = true → flagSet t.causes c = true

section
variable {s t u : State}

theorem State.Reports.refl (s : State) : s.Reports s := ⟨rfl, by omega, fun _ h => h⟩

theorem State.Reports.trans (h : s.Reports t) (k : t.Reports u) : s.Reports u := by
  refine ⟨?_, ?_, fun c hc => k.flags c (h.flags c hc)⟩
  · rw [k.frame, h.frame]
  · have := h.bound
    have := k.bound
    omega

theorem State.Reports.clock (h : s.Reports t) : t.clock = s.clock := by rw [h.frame]
theorem State.Reports.pins (h : s.Reports t) : t.pins = s.pins := by rw [h.frame]
theorem State.Reports.filters (h : s.Reports t) : t.filters = s.filters := by rw [h.frame]
theorem State.Reports.head (h : s.Reports t) : t.head = s.head := by rw [h.frame]
theorem State.Reports.ring (h : s.Reports t) : t.ring = s.ring := by rw [h.frame]
theorem State.Reports.params (h : s.Reports t) : t.params = s.params := by rw [h.frame]
theorem State.Reports.envelopes (h : s.Reports t) : t.envelopes = s.envelopes := by rw [h.frame]
theorem State.Reports.tracker (h : s.Reports t) : t.tracker = s.tracker := by rw [h.frame]
theorem State.Reports.odo (h : s.Reports t) : t.odo = s.odo := by rw [h.frame]
theorem State.Reports.route (h : s.Reports t) : t.route = s.route := by rw [h.frame]
theorem State.Reports.ctrl (h : s.Reports t) : t.ctrl = s.ctrl := by rw [h.frame]
theorem State.Reports.freeIndex (h : s.Reports t) : t.freeIndex = s.freeIndex := by rw [h.frame]
theorem State.Reports.pending (h : s.Reports t) : t.pending = s.pending := by rw [h.frame]
theorem State.Reports.link (h : s.Reports t) : t.link = { s.link with events := t.link.events } := by
  conv_lhs => rw [h.frame]

end

/-! ### The operations -/

@[simp] theorem Work.markFatal_st (w : Work) (c : Cause) : (w.markFatal c).st = w.st := by
  unfold Work.markFatal
  split <;> rfl

theorem flagSet_setFlag (x : BitVec 25) (c : Cause) : flagSet (setFlag x c) c = true := by
  simp only [flagSet, setFlag, BitVec.getLsbD_or]
  cases c <;> simp [Cause.bit]

theorem flagSet_setFlag_of (x : BitVec 25) (c d : Cause) (h : flagSet x d = true) : flagSet (setFlag x c) d = true := by
  simp only [flagSet, setFlag, BitVec.getLsbD_or] at *
  simp [h]

theorem State.reports_setFlag (s : State) (c : Cause) : s.Reports (s.withCauses (setFlag s.causes c)) :=
  ⟨rfl, by simp only [State.withCauses_link]; omega, fun d hd => flagSet_setFlag_of _ _ _ hd⟩

theorem Work.lose_reports (w : Work) : w.st.Reports w.lose.st := by
  simpa [Work.lose] using State.reports_setFlag w.st .eventLoss

theorem Work.queue_reports (w : Work) (b : EventBody) : w.st.Reports (w.queue b).st := by
  unfold Work.queue
  split
  · next h =>
    refine ⟨rfl, ?_, fun _ hc => hc⟩
    simp only [Work.modify_st, State.withLink_link, List.length_append, List.length_singleton]
    omega
  · exact w.lose_reports

theorem Work.raise_reports (w : Work) (c : Cause) : w.st.Reports (w.raise c).st := by
  have hm : ∀ w' : Work, w'.st = w.st → w.st.Reports
      (if flagSet w'.st.causes c then w'
       else
        let w := w'.modify fun s => s.withCauses (setFlag s.causes c)
        if w.st.reports c.cls then w.queue (.notice c w.st.chainage) else w).st := by
    intro w' h'
    split
    · rw [h']
      exact .refl _
    · have h1 : w.st.Reports (w'.modify fun s => s.withCauses (setFlag s.causes c)).st := by
        rw [Work.modify_st, h']
        exact State.reports_setFlag _ _
      dsimp only
      split
      · exact h1.trans (Work.queue_reports _ _)
      · exact h1
  unfold Work.raise
  split
  · exact hm _ (Work.markFatal_st _ _)
  · exact hm _ rfl

theorem Work.raiseIf_reports (w : Work) (b : Bool) (c : Cause) : w.st.Reports (w.raiseIf b c).st := by
  cases b
  · exact .refl _
  · exact w.raise_reports c

/-- After a raising the flag is set. -/
theorem Work.raise_flag (w : Work) (c : Cause) : flagSet (w.raise c).st.causes c = true := by
  have hm : ∀ w' : Work, flagSet
      (if flagSet w'.st.causes c then w'
       else
        let w := w'.modify fun s => s.withCauses (setFlag s.causes c)
        if w.st.reports c.cls then w.queue (.notice c w.st.chainage) else w).st.causes c = true := by
    intro w'
    split
    · assumption
    · have h1 : flagSet (w'.modify fun s => s.withCauses (setFlag s.causes c)).st.causes c = true :=
        flagSet_setFlag _ _
      dsimp only
      split
      · exact (Work.queue_reports _ _).flags c h1
      · exact h1
  unfold Work.raise
  split <;> exact hm _

/-- Queueing many records. -/
theorem Work.foldl_queue_reports (xs : List Intrusion) (f : Work → Intrusion → EventBody) (w : Work) :
    w.st.Reports (xs.foldl (fun w x => w.queue (f w x)) w).st := by
  induction xs generalizing w with
  | nil => exact .refl _
  | cons x xs ih => exact (w.queue_reports (f w x)).trans (ih _)

/-- What a pass emits, queued and raised. -/
theorem Work.emit_reports (w : Work) (e : Emission) : w.st.Reports (w.emit e).st := by
  cases e with
  | record b => exact w.queue_reports b
  | cause c => exact w.raise_reports c

theorem Work.foldl_emit_reports (es : List Emission) (w : Work) : w.st.Reports (es.foldl Work.emit w).st := by
  induction es generalizing w with
  | nil => exact .refl _
  | cons e es ih => exact (w.emit_reports e).trans (ih _)

theorem Work.queueMark_reports (w : Work) (r : RingContext) (x : RingStatus) : w.st.Reports (w.queueMark r x).st := by
  unfold Work.queueMark
  split
  · exact w.queue_reports _
  · exact .refl _

/-! ### A fatal cause in hand -/

theorem Work.markFatal_fatal_of_some {w : Work} {c d : Cause} (h : w.fatal = some c) : (w.markFatal d).fatal = some c := by
  unfold Work.markFatal
  split
  · next k => rw [h] at k; cases k.2
  · exact h

theorem Work.queue_fatal_of_some {w : Work} {b : EventBody} {c : Cause} (h : w.fatal = some c) :
    (w.queue b).fatal = some c := by
  unfold Work.queue
  split
  · exact h
  · simpa [Work.lose] using Work.markFatal_fatal_of_some h

theorem Work.raise_fatal_of_some {w : Work} {c d : Cause} (h : w.fatal = some c) : (w.raise d).fatal = some c := by
  have hm : ∀ w' : Work, w'.fatal = some c →
      (if flagSet w'.st.causes d then w'
       else
        let w := w'.modify fun s => s.withCauses (setFlag s.causes d)
        if w.st.reports d.cls then w.queue (.notice d w.st.chainage) else w).fatal = some c := by
    intro w' h'
    split
    · exact h'
    · dsimp only
      split
      · exact Work.queue_fatal_of_some h'
      · exact h'
  unfold Work.raise
  split
  · exact hm _ (Work.markFatal_fatal_of_some h)
  · exact hm _ h

/-- A fatal cause raised in RUNNING or PAUSED with none in hand is in hand after (R140, R142). -/
theorem Work.raise_fatal {w : Work} {c : Cause} (hc : c.cls = .fatal) (hr : w.st.ctrl.run = .running ∨ w.st.ctrl.run = .paused)
    (h : w.fatal = none) : (w.raise c).fatal = some c := by
  have h1 : (w.markFatal c).fatal = some c := by simp [Work.markFatal, hr, h]
  unfold Work.raise
  rw [if_pos hc]
  dsimp only
  split
  · exact h1
  · split
    · exact Work.queue_fatal_of_some h1
    · exact h1

end Sys2Proof.Machine
end

