-- ==== Sys2Proof/Laws/Params.lean ====
section
/-! SUPPORT. What a taking does: the image stays, each parameter taken has its adjusted value in effect, the others keep
theirs, and besides the parameter store only records and causes come of it (R150 to R153). -/

namespace Sys2Proof.Machine

/-! ### The store -/

@[simp] theorem ParamStore.listAdjusted_image (ps : ParamStore) (p : ParamId) : (ps.listAdjusted p).image = ps.image := by
  unfold ParamStore.listAdjusted
  split <;> rfl

@[simp] theorem ParamStore.listAdjusted_effect (ps : ParamStore) (p : ParamId) :
    (ps.listAdjusted p).effect = ps.effect := by
  unfold ParamStore.listAdjusted
  split <;> rfl

@[simp] theorem ParamStore.listAdjusted_liveWaiting (ps : ParamStore) (p : ParamId) :
    (ps.listAdjusted p).liveWaiting = ps.liveWaiting := by
  unfold ParamStore.listAdjusted
  split <;> rfl

theorem ParamStore.listAdjusted_bound (ps : ParamStore) (p : ParamId) (h : ps.adjustedIds.length ≤ Config.maxAdjusted) :
    (ps.listAdjusted p).adjustedIds.length ≤ Config.maxAdjusted := by
  unfold ParamStore.listAdjusted
  split
  · next k => simpa using k
  · exact h

@[simp] theorem ParamStore.takeOne_image (ps : ParamStore) (p : ParamId) : (ps.takeOne p).image = ps.image := by
  unfold ParamStore.takeOne
  dsimp only
  split <;> simp

@[simp] theorem ParamStore.takeOne_liveWaiting (ps : ParamStore) (p : ParamId) :
    (ps.takeOne p).liveWaiting = ps.liveWaiting := by
  unfold ParamStore.takeOne
  dsimp only
  split <;> simp

theorem ParamStore.takeOne_effect (ps : ParamStore) (p : ParamId) :
    (ps.takeOne p).effect = ps.effect.set p (adjusted ps.image p).1 := by
  unfold ParamStore.takeOne
  dsimp only
  split <;> simp

theorem ParamStore.takeOne_bound (ps : ParamStore) (p : ParamId) (h : ps.adjustedIds.length ≤ Config.maxAdjusted) :
    (ps.takeOne p).adjustedIds.length ≤ Config.maxAdjusted := by
  unfold ParamStore.takeOne
  dsimp only
  split
  · exact ParamStore.listAdjusted_bound _ _ h
  · exact h

/-- Parameters taken one after another from one image. -/
theorem ParamStore.foldl_takeOne (ids : List ParamId) (ps : ParamStore) :
    (ids.foldl ParamStore.takeOne ps).image = ps.image ∧
    (ids.foldl ParamStore.takeOne ps).liveWaiting = ps.liveWaiting ∧
    (∀ q : ParamId, (ids.foldl ParamStore.takeOne ps).effect[q] =
      if q ∈ ids then (adjusted ps.image q).1 else ps.effect[q]) ∧
    (ps.adjustedIds.length ≤ Config.maxAdjusted →
      (ids.foldl ParamStore.takeOne ps).adjustedIds.length ≤ Config.maxAdjusted) := by
  induction ids generalizing ps with
  | nil => simp
  | cons p ids ih =>
    obtain ⟨h1, h2, h3, h4⟩ := ih (ps.takeOne p)
    simp only [List.foldl_cons]
    refine ⟨by rw [h1, takeOne_image], by rw [h2, takeOne_liveWaiting], ?_,
      fun h => h4 (ParamStore.takeOne_bound _ _ h)⟩
    intro q
    rw [h3, takeOne_image, takeOne_effect]
    by_cases hq : q ∈ ids
    · simp [hq]
    · by_cases hp : q = p
      · subst hp
        simp [hq]
      · have hne : p.val ≠ q.val := fun h => hp (Fin.ext h.symm)
        simp [hq, hp, hne]

/-! ### Takings -/

/-- From `s` to `t` parameters were taken, records queued or lost, causes raised. -/
structure State.Takes (s t : State) : Prop where
  frame : t = { s with params := t.params, causes := t.causes, link := { s.link with events := t.link.events } }
  bound : t.link.events.length ≤ max s.link.events.length Config.maxEvents
  flags : ∀ c : Cause, flagSet s.causes c = true → flagSet t.causes c = true
  image : t.params.image = s.params.image

section
variable {s t u : State}

theorem State.Reports.takes (h : s.Reports t) : s.Takes t :=
  ⟨by rw [h.params]; exact h.frame, h.bound, h.flags, by rw [h.params]⟩

theorem State.Takes.refl (s : State) : s.Takes s := (State.Reports.refl s).takes

theorem State.Takes.trans (h : s.Takes t) (k : t.Takes u) : s.Takes u := by
  refine ⟨?_, ?_, fun c hc => k.flags c (h.flags c hc), k.image.trans h.image⟩
  · rw [k.frame, h.frame]
  · have := h.bound
    have := k.bound
    omega

theorem State.Takes.clock (h : s.Takes t) : t.clock = s.clock := by rw [h.frame]
theorem State.Takes.pins (h : s.Takes t) : t.pins = s.pins := by rw [h.frame]
theorem State.Takes.filters (h : s.Takes t) : t.filters = s.filters := by rw [h.frame]
theorem State.Takes.head (h : s.Takes t) : t.head = s.head := by rw [h.frame]
theorem State.Takes.ring (h : s.Takes t) : t.ring = s.ring := by rw [h.frame]
theorem State.Takes.envelopes (h : s.Takes t) : t.envelopes = s.envelopes := by rw [h.frame]
theorem State.Takes.tracker (h : s.Takes t) : t.tracker = s.tracker := by rw [h.frame]
theorem State.Takes.odo (h : s.Takes t) : t.odo = s.odo := by rw [h.frame]
theorem State.Takes.route (h : s.Takes t) : t.route = s.route := by rw [h.frame]
theorem State.Takes.ctrl (h : s.Takes t) : t.ctrl = s.ctrl := by rw [h.frame]
theorem State.Takes.freeIndex (h : s.Takes t) : t.freeIndex = s.freeIndex := by rw [h.frame]
theorem State.Takes.pending (h : s.Takes t) : t.pending = s.pending := by rw [h.frame]
theorem State.Takes.link (h : s.Takes t) : t.link = { s.link with events := t.link.events } := by
  conv_lhs => rw [h.frame]

end

theorem Work.takeOne_params (raises : Bool) (w : Work) (p : ParamId) :
    (Work.takeOne raises w p).st.params = w.st.params.takeOne p := by
  unfold Work.takeOne
  dsimp only
  rw [(Work.raiseIf_reports _ _ _).params]
  rfl

theorem Work.takeOne_takes (raises : Bool) (w : Work) (p : ParamId) : w.st.Takes (Work.takeOne raises w p).st := by
  have h : w.st.Takes (w.modify fun s => s.withParams (s.params.takeOne p)).st :=
    ⟨rfl, by simp only [Work.modify_st, State.withParams_link]; omega, fun _ h => h, by simp⟩
  exact h.trans (Work.raiseIf_reports _ _ _).takes

theorem Work.foldl_takeOne_params (raises : Bool) (ids : List ParamId) (w : Work) :
    (ids.foldl (Work.takeOne raises) w).st.params = ids.foldl ParamStore.takeOne w.st.params := by
  induction ids generalizing w with
  | nil => rfl
  | cons p ids ih => rw [List.foldl_cons, ih, Work.takeOne_params, List.foldl_cons]

theorem Work.foldl_takeOne_takes (raises : Bool) (ids : List ParamId) (w : Work) :
    w.st.Takes (ids.foldl (Work.takeOne raises) w).st := by
  induction ids generalizing w with
  | nil => exact .refl _
  | cons p ids ih => exact (Work.takeOne_takes raises w p).trans (ih _)

theorem mem_idsOf (inClass : ParamClass → Bool) (p : ParamId) : p ∈ idsOf inClass ↔ inClass (paramRow p).cls = true := by
  simp [idsOf]

theorem Work.take_takes (w : Work) (inClass : ParamClass → Bool) (raises : Bool) :
    w.st.Takes (w.take inClass raises).st := by
  have h : w.st.Takes (w.modify fun s => s.withParams { s.params with adjustedIds := [], further := 0 }).st :=
    ⟨rfl, by simp only [Work.modify_st, State.withParams_link]; omega, fun _ h => h, rfl⟩
  exact h.trans (Work.foldl_takeOne_takes _ _ _)

/-- A full taking of some classes. -/
theorem Work.take_params (w : Work) (inClass : ParamClass → Bool) (raises : Bool) :
    (w.take inClass raises).st.params.liveWaiting = w.st.params.liveWaiting ∧
    (∀ q : ParamId, (w.take inClass raises).st.params.effect[q] =
      if inClass (paramRow q).cls = true then (adjusted w.st.params.image q).1 else w.st.params.effect[q]) ∧
    (w.take inClass raises).st.params.adjustedIds.length ≤ Config.maxAdjusted := by
  have e : (w.take inClass raises).st.params =
      (idsOf inClass).foldl ParamStore.takeOne { w.st.params with adjustedIds := [], further := 0 } :=
    Work.foldl_takeOne_params _ _ _
  obtain ⟨_, h2, h3, h4⟩ :=
    ParamStore.foldl_takeOne (idsOf inClass) { w.st.params with adjustedIds := [], further := 0 }
  rw [e]
  refine ⟨h2, fun q => ?_, h4 (Nat.zero_le _)⟩
  rw [h3 q]
  simp only [mem_idsOf]

theorem Work.takeLive_takes (w : Work) : w.st.Takes w.takeLive.st := by
  have h : w.st.Takes (w.modify fun s => s.withParams { s.params with liveWaiting := false }).st :=
    ⟨rfl, by simp only [Work.modify_st, State.withParams_link]; omega, fun _ h => h, rfl⟩
  exact h.trans (Work.take_takes _ _ _)

theorem Work.takeLive_params (w : Work) :
    w.takeLive.st.params.liveWaiting = false ∧
    (∀ q : ParamId, w.takeLive.st.params.effect[q] =
      if (paramRow q).cls = .live then (adjusted w.st.params.image q).1 else w.st.params.effect[q]) ∧
    w.takeLive.st.params.adjustedIds.length ≤ Config.maxAdjusted := by
  unfold Work.takeLive
  refine ⟨?_, fun q => ?_, (Work.take_params _ _ _).2.2⟩
  · rw [(Work.take_params _ _ _).1]
    rfl
  · rw [(Work.take_params _ _ _).2.1 q]
    simp only [ParamClass.isLive, decide_eq_true_eq, Work.modify_st, State.withParams_params]

theorem Work.takeLiveIfWaiting_takes (w : Work) : w.st.Takes w.takeLiveIfWaiting.st := by
  unfold Work.takeLiveIfWaiting
  split
  · exact w.takeLive_takes
  · exact .refl _

end Sys2Proof.Machine
end

