-- ==== Sys2Proof/Laws/RunControl.lean ====
section
/-! SUPPORT. What leaving RUNNING, closing every intrusion, cancelling the fix and entering FAULT leave of the state (R15,
R82 to R84, R99, R134, R140). -/

namespace Sys2Proof.Machine

/-! ### The values in effect across a LIVE taking that may be void -/

/-- Each value in effect is kept or is the adjusted image value of a LIVE parameter; the adjusted list stays within its
capacity. -/
structure ParamStore.LiveFrom (ps qs : ParamStore) : Prop where
  image : qs.image = ps.image
  effect : ∀ q : ParamId, qs.effect[q] = ps.effect[q] ∨
    ((paramRow q).cls = .live ∧ qs.effect[q] = (adjusted ps.image q).1)
  bound : ps.adjustedIds.length ≤ Config.maxAdjusted → qs.adjustedIds.length ≤ Config.maxAdjusted

theorem ParamStore.LiveFrom.refl (ps : ParamStore) : ps.LiveFrom ps := ⟨rfl, fun _ => .inl rfl, id⟩

theorem Work.takeLive_liveFrom (w : Work) : w.st.params.LiveFrom w.takeLive.st.params := by
  obtain ⟨_, h2, h3⟩ := w.takeLive_params
  refine ⟨w.takeLive_takes.image, fun q => ?_, fun _ => h3⟩
  rw [h2 q]
  split
  · next h => exact .inr ⟨h, rfl⟩
  · exact .inl rfl

theorem Work.takeLiveIfWaiting_liveFrom (w : Work) : w.st.params.LiveFrom w.takeLiveIfWaiting.st.params := by
  unfold Work.takeLiveIfWaiting
  split
  · exact w.takeLive_liveFrom
  · exact .refl _

/-! ### Abandoning a ring -/

/-- The open ring's profile slot freed, records queued or lost. -/
theorem State.dropProfile_frame (s : State) (r : RingContext) :
    s.dropProfile r = { s with link := { s.link with slots := (s.dropProfile r).link.slots } } := by
  unfold State.dropProfile
  split <;> rfl

/-- From `s` to `t` the profile slots may change, records were queued or lost and causes raised. -/
structure State.Drops (s t : State) : Prop where
  frame : t = { s with causes := t.causes, link := { s.link with events := t.link.events, slots := t.link.slots } }
  bound : t.link.events.length ≤ max s.link.events.length Config.maxEvents
  flags : ∀ c : Cause, flagSet s.causes c = true → flagSet t.causes c = true

theorem State.Drops.refl (s : State) : s.Drops s := ⟨rfl, by omega, fun _ h => h⟩

theorem State.Reports.drops {s t : State} (h : s.Reports t) : s.Drops t := by
  refine ⟨?_, h.bound, h.flags⟩
  rw [h.frame]

theorem State.Drops.trans {s t u : State} (h : s.Drops t) (k : t.Drops u) : s.Drops u := by
  refine ⟨?_, ?_, fun c hc => k.flags c (h.flags c hc)⟩
  · rw [k.frame, h.frame]
  · have := h.bound
    have := k.bound
    omega

theorem State.dropProfile_drops (s : State) (r : RingContext) : s.Drops (s.dropProfile r) := by
  refine ⟨?_, ?_, ?_⟩
  · rw [State.dropProfile_frame]
  · rw [State.dropProfile_frame]
    exact le_max_left _ _
  · intro c h
    rw [State.dropProfile_frame]
    exact h

theorem Work.abandonRing_drops (w : Work) : w.st.Drops w.abandonRing.st := by
  unfold Work.abandonRing
  split
  · next r _ =>
    exact (State.dropProfile_drops w.st r).trans
      (Work.queueMark_reports (w.modify fun s => s.dropProfile r) r .abandoned).drops
  · exact .refl _

/-! ### Leaving RUNNING -/

/-- Every slot as leaving RUNNING or the opening of a ring leaves it (R42, R43). -/
theorem State.commitWaiting_envelope (s : State) (k : SlotId) :
    s.commitWaiting.envelopes[k] = s.envelopes[k].settleWaiting := by simp [State.commitWaiting]

/-- What R134 leaves of the state. -/
structure State.Leaves (s t : State) : Prop where
  frame : t = { s with
    ring := { s.ring with asm := .inactive, stall := none }
    envelopes := s.envelopes.map EnvelopeSlot.settleWaiting
    tracker := { s.tracker with alert := false }
    params := t.params
    causes := t.causes
    link := { s.link with events := t.link.events, slots := t.link.slots } }
  bound : t.link.events.length ≤ max s.link.events.length Config.maxEvents
  flags : ∀ c : Cause, flagSet s.causes c = true → flagSet t.causes c = true
  params : s.params.LiveFrom t.params

/-- The state R134 leaves before the LIVE class may be taken. -/
theorem State.Leaves.of_takes {s v t : State} (h1 : s.Drops v)
    (h2 : (((v.withRing { v.ring with asm := .inactive, stall := none }).commitWaiting).withTracker
      { v.tracker with alert := false }).Takes t) (h3 : v.params.LiveFrom t.params) : s.Leaves t := by
  refine ⟨?_, ?_, fun c hc => h2.flags c (h1.flags c hc), ?_⟩
  · rw [h2.frame, h1.frame]
    rfl
  · have b1 := h1.bound
    have b2 : t.link.events.length ≤ max v.link.events.length Config.maxEvents := h2.bound
    omega
  · have e : v.params = s.params := by rw [h1.frame]
    rw [← e]
    exact h3

theorem Work.leaveRunning_leaves (w : Work) : w.st.Leaves w.leaveRunning.st := by
  exact .of_takes w.abandonRing_drops
    (Work.takeLiveIfWaiting_takes
      (((w.abandonRing.modify fun s => s.withRing { s.ring with asm := .inactive, stall := none }).modify
        State.commitWaiting).modify fun s => s.withTracker { s.tracker with alert := false }))
    (Work.takeLiveIfWaiting_liveFrom
      (((w.abandonRing.modify fun s => s.withRing { s.ring with asm := .inactive, stall := none }).modify
        State.commitWaiting).modify fun s => s.withTracker { s.tracker with alert := false }))

/-! ### Closing and cancelling -/

theorem Work.closeAll_frame (w : Work) (why : CloseCause) (c : Int) :
    (w.closeAll why c).st = { w.st with
      tracker := { w.st.tracker with table := [], sectors := Vector.replicate 256 .clear }
      causes := (w.closeAll why c).st.causes
      link := { w.st.link with events := (w.closeAll why c).st.link.events } } ∧
    (w.closeAll why c).st.link.events.length ≤ max w.st.link.events.length Config.maxEvents ∧
    ∀ d : Cause, flagSet w.st.causes d = true → flagSet (w.closeAll why c).st.causes d = true := by
  have h := Work.foldl_queue_reports w.st.tracker.table
    (fun w x => .intrusionClose x c w.st.ring.ringSeq why none) w
  refine ⟨?_, h.bound, h.flags⟩
  unfold Work.closeAll
  rw [Work.modify_st, h.frame]
  rfl

theorem Work.cancelFix_frame (w : Work) :
    w.cancelFix.st = { w.st with
      odo := { w.st.odo with pendingFix := none }
      causes := w.cancelFix.st.causes
      link := { w.st.link with events := w.cancelFix.st.link.events } } ∧
    w.cancelFix.st.link.events.length ≤ max w.st.link.events.length Config.maxEvents ∧
    ∀ d : Cause, flagSet w.st.causes d = true → flagSet w.cancelFix.st.causes d = true := by
  unfold Work.cancelFix
  split
  · next f hf =>
    have h := Work.queue_reports (w.modify fun s => s.withOdo { s.odo with pendingFix := none })
      (.fix (f.record .cancelled none))
    exact ⟨h.frame, h.bound, h.flags⟩
  · next hf =>
    refine ⟨?_, by omega, fun _ h => h⟩
    conv_rhs => rw [← hf]

/-! ### Fault entry -/

/-- What fault entry on a cause leaves of the state (R140). -/
structure State.Faulted (s : State) (c : Cause) (t : State) : Prop where
  ctrl : t.ctrl = { s.ctrl with
    run := .fault, chainageAtPause := none
    faultRecord := some { cause := c, ringSeq := s.ring.ringSeq, chainage := s.chainage } }
  ring : t.ring = if s.ctrl.run = .running then { s.ring with asm := .inactive, stall := none } else s.ring
  tracker : t.tracker = { s.tracker with
    table := [], sectors := Vector.replicate 256 .clear
    alert := if s.ctrl.run = .running then false else s.tracker.alert }
  odo : t.odo = { s.odo with pendingFix := none }
  envelopes : t.envelopes = if s.ctrl.run = .running then s.envelopes.map EnvelopeSlot.settleWaiting else s.envelopes
  frame : t = { s with
    ctrl := t.ctrl, ring := t.ring, tracker := t.tracker, odo := t.odo, envelopes := t.envelopes, params := t.params
    causes := t.causes, link := { s.link with events := t.link.events, slots := t.link.slots } }
  bound : t.link.events.length ≤ max s.link.events.length Config.maxEvents
  flags : ∀ d : Cause, flagSet s.causes d = true → flagSet t.causes d = true
  params : s.params.LiveFrom t.params

theorem Work.faultEntry_faulted (w : Work) (c : Cause) : w.st.Faulted c (w.faultEntry c).st := by
  unfold Work.faultEntry
  dsimp only
  set w1 := w.modify fun s => s.withCtrl { s.ctrl with
    faultRecord := some { cause := c, ringSeq := s.ring.ringSeq, chainage := w.st.chainage } } with hw1
  have e1 : w1.st = w.st.withCtrl { w.st.ctrl with
    faultRecord := some { cause := c, ringSeq := w.st.ring.ringSeq, chainage := w.st.chainage } } := rfl
  set w2 := (if w1.st.ctrl.run = .running then w1.leaveRunning else w1) with hw2
  obtain ⟨f3, b3, g3⟩ := w2.cancelFix_frame
  obtain ⟨f4, b4, g4⟩ := w2.cancelFix.closeAll_frame .fault w.st.chainage
  set w4 := w2.cancelFix.closeAll .fault w.st.chainage with hw4
  have h5 := w4.queue_reports (.runSummary (w4.st.runSummary true w.st.chainage))
  set w5 := w4.queue (.runSummary (w4.st.runSummary true w.st.chainage)) with hw5
  have run1 : w1.st.ctrl.run = w.st.ctrl.run := rfl
  by_cases hr : w.st.ctrl.run = .running
  · have e2 : w2 = w1.leaveRunning := by rw [hw2, if_pos (run1.trans hr)]
    have h2 := w1.leaveRunning_leaves
    rw [← e2] at h2
    have key : (w5.modify fun s => s.endRun .fault).st = { w.st with
        ctrl := { w.st.ctrl with
          run := .fault, chainageAtPause := none
          faultRecord := some { cause := c, ringSeq := w.st.ring.ringSeq, chainage := w.st.chainage } }
        ring := { w.st.ring with asm := .inactive, stall := none }
        tracker := { w.st.tracker with table := [], sectors := Vector.replicate 256 .clear, alert := false }
        odo := { w.st.odo with pendingFix := none }
        envelopes := w.st.envelopes.map EnvelopeSlot.settleWaiting
        params := w2.st.params
        causes := w5.st.causes
        link := { w.st.link with events := w5.st.link.events, slots := w2.st.link.slots } } := by
      rw [Work.modify_st, h5.frame, f4, f3, h2.frame, e1]
      rfl
    have b2 := h2.bound
    have b5 := h5.bound
    have b1 : w1.st.link.events.length = w.st.link.events.length := rfl
    refine ⟨?_, ?_, ?_, ?_, ?_, ?_, ?_, ?_, ?_⟩
    · rw [key]
    · rw [key, if_pos hr]
    · rw [key, if_pos hr]
    · rw [key]
    · rw [key, if_pos hr]
    · rw [key]
    · change w5.st.link.events.length ≤ _
      omega
    · intro d hd
      exact h5.flags d (g4 d (g3 d (h2.flags d hd)))
    · rw [key]
      exact h2.params
  · have e2 : w2 = w1 := by rw [hw2, if_neg (by rw [run1]; exact hr)]
    rw [e2] at f3 b3 g3 f4 b4 g4
    have key : (w5.modify fun s => s.endRun .fault).st = { w.st with
        ctrl := { w.st.ctrl with
          run := .fault, chainageAtPause := none
          faultRecord := some { cause := c, ringSeq := w.st.ring.ringSeq, chainage := w.st.chainage } }
        tracker := { w.st.tracker with table := [], sectors := Vector.replicate 256 .clear }
        odo := { w.st.odo with pendingFix := none }
        causes := w5.st.causes
        link := { w.st.link with events := w5.st.link.events } } := by
      rw [Work.modify_st, h5.frame, f4, f3, e1]
      rfl
    have b5 := h5.bound
    have b1 : w1.st.link.events.length = w.st.link.events.length := rfl
    refine ⟨?_, ?_, ?_, ?_, ?_, ?_, ?_, ?_, ?_⟩
    · rw [key]
    · rw [key, if_neg hr]
    · rw [key, if_neg hr]
    · rw [key]
    · rw [key, if_neg hr]
    · rw [key]
    · change w5.st.link.events.length ≤ _
      omega
    · intro d hd
      exact h5.flags d (g4 d (g3 d hd))
    · rw [key]
      exact .refl _

/-- Taking what is left of a command: nothing, or fault entry from RUNNING or PAUSED. -/
theorem Work.settle_cases (w : Work) :
    (w.settle.st = w.st ∧ (w.fatal = none ∨ ¬ (w.st.ctrl.run = .running ∨ w.st.ctrl.run = .paused))) ∨
    ∃ c, w.fatal = some c ∧ (w.st.ctrl.run = .running ∨ w.st.ctrl.run = .paused) ∧ w.st.Faulted c w.settle.st := by
  unfold Work.settle
  split
  · next h => exact .inl ⟨rfl, .inl h⟩
  · next c h =>
    split
    · next hr => exact .inr ⟨c, h, hr, w.faultEntry_faulted c⟩
    · next hr => exact .inl ⟨rfl, .inr hr⟩

theorem Work.settle_fatal (w : Work) : w.settle.fatal = none := by
  unfold Work.settle
  split
  · assumption
  · split <;> rfl

end Sys2Proof.Machine
end

