-- ==== Sys2Proof/Laws/LinkPort.lean ====
section
/-! SUPPORT. What a received upstream symbol can do: symbol lock moves by its runs, and nothing fatal is left over (section
1.1, R155, R165). -/

namespace Sys2Proof.Machine

/-- Every symbol either moves one count of the run under way or changes whether lock is held. -/
theorem SymbolLock.next_cases (l : SymbolLock) (x : Symbol) :
    (l.held = true ∧ x = .invalid ∧ l.invalids < 3 ∧ l.next x = { l with invalids := l.invalids + 1 }) ∨
    (l.held = true ∧ x = .invalid ∧ 3 ≤ l.invalids ∧ l.next x = .none) ∨
    (l.held = true ∧ x ≠ .invalid ∧ l.next x = { l with invalids := 0 }) ∨
    (l.held = false ∧ x = .idle ∧ l.idles < 2 ∧ l.next x = { l with idles := l.idles + 1 }) ∨
    (l.held = false ∧ x = .idle ∧ 2 ≤ l.idles ∧ l.next x = { held := true, idles := 0, invalids := 0 }) ∨
    (l.held = false ∧ x ≠ .idle ∧ l.next x = { l with idles := 0 }) := by
  unfold SymbolLock.next Config.symbolLossRun Config.symbolLockRun
  cases l.held <;> split_ifs <;> simp_all <;> omega

/-- Without symbol lock a symbol moves the lock alone (R155). -/
theorem Work.receive_of_not_held (w : Work) (x : Symbol) (h : w.st.link.sync.held = false) :
    w.receive x = w.modify fun s => s.withLink { s.link with sync := w.st.link.sync.next x } := by
  simp [Work.receive, h]

/-- A symbol received leaves no fatal cause waiting where none waited. -/
theorem Work.receive_fatal (w : Work) (x : Symbol) (h : w.fatal = none) : (w.receive x).fatal = none := by
  simp only [Work.receive]
  split
  · exact Work.settle_fatal _
  · split
    · unfold Work.receiveUp
      split <;> simp_all [Work.setPartFrame, Work.modify, Work.judgeFrame, Work.settle_fatal]
    · simpa [Work.modify] using h

/-- So do many symbols. -/
theorem Work.receive_all_fatal (xs : List Symbol) :
    ∀ w : Work, w.fatal = none → (xs.foldl Work.receive w).fatal = none := by
  induction xs with
  | nil => exact fun _ h => h
  | cons x xs ih => exact fun w h => ih _ (w.receive_fatal x h)

end Sys2Proof.Machine
end

