-- ==== Sys2Proof/Laws/HeadLink.lean ====
section
/-! SUPPORT. What received head link symbols do: without lock they move the lock alone, and the symbols of a whole frame bring
its judgement and nothing else (section 1.1, R1). -/

namespace Sys2Proof.Machine

/-- Under lock a symbol that is not invalid ends the run of invalid ones. -/
theorem SymbolLock.next_of_held {l : SymbolLock} {x : Symbol} (h : l.held = true) (hx : x ≠ .invalid) :
    l.next x = l.heard := by
  simp [SymbolLock.next, h, hx, SymbolLock.heard]

@[simp] theorem SymbolLock.heard_held (l : SymbolLock) : l.heard.held = l.held := rfl
@[simp] theorem SymbolLock.heard_heard (l : SymbolLock) : l.heard.heard = l.heard := rfl

/-- Without symbol lock a symbol moves the lock alone. -/
theorem Work.receiveHead_of_not_held (w : Work) (x : Symbol) (h : w.st.head.sync.held = false) :
    w.receiveHead x = w.modify fun s => s.withHead { s.head with sync := w.st.head.sync.next x } := by
  simp [Work.receiveHead, h]

/-- A symbol received leaves no fatal cause waiting where none waited. -/
theorem Work.receiveHead_fatal (w : Work) (x : Symbol) (h : w.fatal = none) : (w.receiveHead x).fatal = none := by
  simp only [Work.receiveHead]
  split
  · unfold Work.headSymbol
    split
    case h_3 =>
      dsimp only
      split
      · exact Work.settle_fatal _
      · simpa [Work.setHeadPart, Work.modify] using h
    all_goals simp_all [Work.setHeadPart, Work.modify, Work.settle_fatal]
  · simpa [Work.modify] using h

/-- So do many symbols. -/
theorem Work.receiveHead_all_fatal (xs : List Symbol) :
    ∀ w : Work, w.fatal = none → (xs.foldl Work.receiveHead w).fatal = none := by
  induction xs with
  | nil => exact fun _ h => h
  | cons x xs ih => exact fun w h => ih _ (w.receiveHead_fatal x h)

/-- The bytes of a frame that still lacks some are held. -/
theorem Work.receiveHead_bytes (frame : List Byte) (w : Work) (part : List Byte) (hs : w.st.head.sync.held = true)
    (hp : w.st.head.partFrame = some part) (hw : headFrameWhole (part ++ frame) = false) :
    (frame.map Symbol.data).foldl Work.receiveHead w = w.modify fun s => s.withHead
      { s.head with sync := if frame = [] then w.st.head.sync else w.st.head.sync.heard
                    partFrame := some (part ++ frame) } := by
  induction frame generalizing w part with
  | nil =>
    obtain ⟨s, c⟩ := w
    simp only at hp
    simp [Work.modify, State.withHead, ← hp]
  | cons b frame ih =>
    have hb : headFrameWhole (part ++ [b]) = false := by
      by_contra hc
      simp only [Bool.not_eq_false] at hc
      match part with
      | [] => simp [headFrameWhole] at hc
      | [_] => simp [headFrameWhole] at hc
      | [_, _] =>
        simp only [List.cons_append, List.nil_append, headFrameWhole, decide_eq_true_eq, List.length_nil] at hc
        omega
      | _ :: _ :: _ :: _ =>
        simp only [List.cons_append, headFrameWhole, decide_eq_true_eq, decide_eq_false_iff_not, List.length_append,
          List.length_cons, List.length_nil] at hc hw
        omega
    have h1 : w.receiveHead (.data b) = w.modify fun s => s.withHead
        { s.head with sync := w.st.head.sync.heard, partFrame := some (part ++ [b]) } := by
      simp [Work.receiveHead, hs, Work.headSymbol, hp, hb, Work.setHeadPart, Work.modify, State.withHead,
        SymbolLock.next_of_held hs (x := .data b) (by simp)]
    rw [List.map_cons, List.foldl_cons, h1, ih _ (part ++ [b])]
    · by_cases hf : frame = [] <;> simp [hf, Work.modify, State.withHead]
    · simpa [Work.modify, State.withHead] using hs
    · simp [Work.modify, State.withHead]
    · simpa using hw

/-- A delimiter between frames begins one. -/
theorem Work.receiveHead_delimiter (w : Work) (hs : w.st.head.sync.held = true) (hp : w.st.head.partFrame = none) :
    w.receiveHead .delimiter = w.modify fun s => s.withHead
      { s.head with sync := w.st.head.sync.heard, partFrame := some [] } := by
  simp [Work.receiveHead, hs, Work.headSymbol, hp, Work.setHeadPart, Work.modify, State.withHead,
    SymbolLock.next_of_held hs (x := .delimiter) (by simp)]

/-- The delimiter and bytes of a frame that still lacks some leave it held, and nothing else. -/
theorem Work.receiveHead_unfinished (w : Work) (frame : List Byte) (hs : w.st.head.sync.held = true)
    (hp : w.st.head.partFrame = none) (hw : headFrameWhole frame = false) :
    (framed frame).foldl Work.receiveHead w = w.modify fun s => s.withHead
      { s.head with sync := w.st.head.sync.heard, partFrame := some frame } := by
  rw [framed, List.foldl_cons, w.receiveHead_delimiter hs hp,
    Work.receiveHead_bytes frame _ [] (by simpa [Work.modify, State.withHead] using hs)
      (by simp [Work.modify, State.withHead]) (by simpa using hw)]
  by_cases hf : frame = [] <;> simp [hf, Work.modify, State.withHead]

/-- The symbols of a whole frame bring its judgement, with the run of invalid symbols over and no frame held. -/
theorem Work.receiveHead_framed (w : Work) (frame : List Byte) (hs : w.st.head.sync.held = true)
    (hp : w.st.head.partFrame = none) (hw : headFrameWhole frame = true) (hl : headFrameWhole frame.dropLast = false) :
    (framed frame).foldl Work.receiveHead w =
      (w.modify fun s => s.withHead { s.head with sync := w.st.head.sync.heard, partFrame := none }).judgeHead frame := by
  obtain ⟨init, b, rfl⟩ : ∃ init b, frame = init ++ [b] := by
    rcases List.eq_nil_or_concat frame with rfl | ⟨init, b, h⟩
    · simp [headFrameWhole] at hw
    · exact ⟨init, b, by simpa using h⟩
  rw [List.dropLast_concat] at hl
  rw [show framed (init ++ [b]) = framed init ++ [Symbol.data b] by simp [framed], List.foldl_append,
    w.receiveHead_unfinished init hs hp hl]
  simp [Work.receiveHead, hs, Work.headSymbol, hw, Work.setHeadPart, Work.modify, State.withHead,
    SymbolLock.next_of_held (l := w.st.head.sync.heard) (x := .data b) (by simpa using hs) (by simp)]

/-- A frame that passes R1's check has exactly its bytes. -/
theorem headFrameWhole_of_parse {frame : List Byte} {x : Byte × HeadFrame} (h : parseHeadFrame frame = some x) :
    headFrameWhole frame = true ∧ headFrameWhole frame.dropLast = false := by
  match frame with
  | [] => simp [parseHeadFrame] at h
  | [_] => simp [parseHeadFrame] at h
  | [_, _] => simp [parseHeadFrame] at h
  | kind :: seq :: len :: rest =>
    have hr : rest.length = headPayloadSize kind len + 2 := by
      simp only [parseHeadFrame] at h
      split at h
      · rename_i hc; exact hc.1
      · simp at h
    have hne : rest ≠ [] := by rintro rfl; simp at hr
    constructor
    · simp [headFrameWhole, hr]
    · rw [List.dropLast_cons_of_ne_nil (by simp), List.dropLast_cons_of_ne_nil (by simp),
        List.dropLast_cons_of_ne_nil hne]
      simp only [headFrameWhole, decide_eq_false_iff_not, List.length_dropLast]
      omega

/-- A fatal cause is taken once. -/
theorem Work.settle_settle (w : Work) : w.settle.settle = w.settle := by
  generalize hv : w.settle = v
  have h : v.fatal = none := hv ▸ w.settle_fatal
  simp [Work.settle, h]

/-- A good frame, from its delimiter on, with nothing under way: it is handed on by R2 and R3, and nothing fatal is left. -/
theorem execHeadFrameGood_framed (s : State) (frame : List Byte) (seq : Byte) (f : HeadFrame)
    (hs : s.head.symbolLock = true) (hp : s.head.partFrame = none) (hf : parseHeadFrame frame = some (seq, f)) :
    execHeadFrameGood (framed frame) s =
      ((Work.of (s.withHead { s.head with sync := s.head.sync.heard })).goodFrame seq f).done := by
  have hw := headFrameWhole_of_parse hf
  rw [execHeadFrameGood, Work.receiveHead_framed (Work.of s) frame hs hp hw.1 hw.2, Work.judgeHead, hf]
  simp only [Work.done_eq, Work.settle_settle, Work.of, Work.modify, ← hp]

end Sys2Proof.Machine
end

