-- ==== Sys2Proof/WellFormed.lean ====
section
/-! DEFINITION. Well-formed commands: HEAD_FRAME_GOOD ends on a data byte and carries no invalid symbol, since a good frame
ends with its last CRC byte; HEAD_FRAME_BAD carries a symbol; the symbols that end symbol lock end on an invalid one. Every
other operand is legal by its type. -/

namespace Sys2Proof

/-- Whether a symbol is a data byte. -/
def Symbol.isData : Symbol → Bool
  | .data _ => true
  | _ => false

/-- The checks on a command's operands. -/
def Instr.wellFormed : Instr → Bool
  | .headFrameGood symbols => (symbols.getLast?.any Symbol.isData) && !symbols.contains .invalid
  | .headFrameBad symbols => !symbols.isEmpty
  | .recorderLinkDown symbols => symbols.getLast? = some .invalid
  | .headSymbolLockLost symbols => symbols.getLast? = some .invalid
  | _ => true

end Sys2Proof
end

