-- ==== Sys2Proof/Tests/Slice0.lean ====
section
/-! SUPPORT. Small tests against values the manual prints or that were worked out by hand from it, the well-formedness
smoke, and, for every obligation with hypotheses, a state and operands that meet them. -/

namespace Sys2Proof.Tests

open Sys2Proof Sys2Proof.Machine

-- One thread at a time: each evaluation in the kernel holds a stack of its own.
set_option Elab.async false

/-! ### Frames, written out from §12.2 and §12.3 -/

/-- RING_START, sequence 7, counter 1234h. -/
def ringStartBytes : List Byte := [0x02, 0x07, 0x02, 0x34, 0x12, 0xE0, 0x91]
/-- SAMPLE_RUN, sequence 7, a0 0123h under two unused bits, step 1, one sample: range 7000, intensity 64h, SAT under
unused flag bits. -/
def sampleRunBytes : List Byte := [0x01, 0x07, 0x01, 0x23, 0xC1, 0x01, 0x01, 0x58, 0x1B, 0x64, 0xFA, 0xD6, 0xA3]
/-- HEAD_STATUS, sequence 7, bytes AAh 55h. -/
def headStatusBytes : List Byte := [0x03, 0x07, 0x02, 0xAA, 0x55, 0x76, 0x38]
/-- SAMPLE_RUN, sequence 7, a0 0123h, step 3, two samples: range 7000 and 0 with NR. -/
def twoSampleBytes : List Byte :=
  [0x01, 0x07, 0x02, 0x23, 0x01, 0x03, 0x02, 0x58, 0x1B, 0x64, 0x00, 0x00, 0x00, 0x20, 0x01, 0xB5, 0x38]
/-- The same, sequence 9. -/
def lateSampleBytes : List Byte :=
  [0x01, 0x09, 0x02, 0x23, 0x01, 0x03, 0x02, 0x58, 0x1B, 0x64, 0x00, 0x00, 0x00, 0x20, 0x01, 0xB9, 0xD8]
/-- GET_PARAM of id 24, tag 5. -/
def getParamSymbols : List Symbol := [0x11, 0x05, 0x01, 0x00, 0x18, 0x4B, 0xA7].map .data

def twoSamples : List Sample :=
  [{ range := 7000, intensity := 0x64, nr := false, sat := false, mult := false },
   { range := 0, intensity := 0x20, nr := true, sat := false, mult := false }]

/-- R182: the check value. -/
theorem test_crc_check_value : crc16 [0x31, 0x32, 0x33, 0x34, 0x35, 0x36, 0x37, 0x38, 0x39] = 0x29B1#16 := by
  decide +kernel

theorem test_ring_start_bytes : parseHeadFrame ringStartBytes = some (7, .ringStart 0x1234) := by decide +kernel

theorem test_sample_run_bytes : parseHeadFrame sampleRunBytes = some (7, .sampleRun 0x0123 1
    [{ range := 7000, intensity := 0x64, nr := false, sat := true, mult := false }]) := by decide +kernel

theorem test_head_status_bytes : parseHeadFrame headStatusBytes = some (7, .headStatus [0xAA, 0x55]) := by
  decide +kernel

theorem test_two_sample_bytes : parseHeadFrame twoSampleBytes = some (7, .sampleRun 0x0123 3 twoSamples) := by
  decide +kernel

theorem test_late_sample_bytes : parseHeadFrame lateSampleBytes = some (9, .sampleRun 0x0123 3 twoSamples) := by
  decide +kernel

theorem test_request_symbols : parseRequest getParamSymbols = some { kind := 0x11, tag := 5, payload := [24] } := by
  decide +kernel

/-- R165: a frame with an invalid symbol in it is bad. -/
theorem test_request_invalid_symbol : parseRequest (.invalid :: getParamSymbols) = none := by decide +kernel

/-! ### Well-formedness: an ill-formed command for each check -/

theorem test_wellFormed_good : (Instr.headFrameGood (framed ringStartBytes)).wellFormed = true := by decide
theorem test_wellFormed_refuses_open_end : (Instr.headFrameGood [.delimiter, .data 2, .idle]).wellFormed = false := by
  decide
theorem test_wellFormed_refuses_invalid : (Instr.headFrameGood [.delimiter, .invalid, .data 2]).wellFormed = false := by
  decide
theorem test_wellFormed_refuses_nothing : (Instr.headFrameBad []).wellFormed = false := by decide
theorem test_wellFormed_refuses_link_held : (Instr.recorderLinkDown [.invalid, .idle]).wellFormed = false := by decide
theorem test_wellFormed_refuses_head_held : (Instr.headSymbolLockLost []).wellFormed = false := by decide

/-! ### Values the manual prints -/

/-- R30: the selected entries of the sine table. -/
theorem test_sine_entries :
    [1, 2, 4, 1024, 2048, 4092, 4616, 8712, 12284].map sine =
      [13, 25, 50, 12539, 23170, 32767, 32118, -6491, -32767] := by decide +kernel

/-- R10: the half-widths of its table. -/
theorem test_half_widths :
    [(2000, 0), (10000, 0), (10000, 1), (10000, 2), (10000, 3), (7777, 1), (50000, 3)].map
      (fun x => halfWidth x.1 x.2) = [125, 625, 1250, 2500, 5000, 972, 25000] := by decide +kernel

/-- R111: the tables of its examples. -/
theorem test_route_examples :
    [[RouteEntry.segment 1000 none none, .reference 1000 1, .segment 2000 none none],
     [.segment 1000 none none, .reference 1500 1, .reference 1500 2],
     [.segment 1000 none none, .segment 1000 none none],
     [.segment 1000 none none, .reference 900 1],
     [.reference 400 1, .reference 600 2], []].map firstOffending =
      [none, none, some 1, some 1, some 2, some 0] := by decide +kernel

/-! ### States -/

/-- The head link locked, the last frame's sequence 6. -/
def locked : State :=
  State.reset.withHead { sync := { held := true, idles := 0, invalids := 0 }, partFrame := none, lock := .locked,
                         goodRun := 0, badRun := 0, lastSeq := some 6 }

/-- A run RUNNING with no ring open. -/
def waiting : State :=
  (locked.withCtrl { run := .running, faultRecord := none, startChainage := some 0, chainageAtPause := none }).withRing
    { State.reset.ring with asm := .waiting, stall := some 40000 }

/-- A ring opened at time 0, with a held mark and profile slot 0. -/
def ring : RingContext :=
  { sequence := 1, openTime := 0, chainage := 0, spacing := none, direction := .forward, segment := none, slot := none,
    warnMargin := 200, decimation := 1, stride := 1, profileSlot := some 0,
    heldMark := some { chainage := 0, ringSeq := 1, angle := none, merged := 255 }, valid := 0, dropout := 0,
    outOfWindow := 0, framesMissing := 0, lastAngle := none, spacedWide := false, fixApplied := false }

/-- A run RUNNING with the ring open at time `us`, `k` rings discarded in a row before it. -/
def opened (us : Nat) (k : Nat) : State :=
  (waiting.withRing { waiting.ring with asm := .opened ring, ringSeq := 1, discards := k }).withClock
    { timeBase := BitVec.ofNat 32 us, sinceUpdate := 0 }

/-- A run PAUSED at chainage `c`. -/
def pausedAt (c : Int) : State :=
  locked.withCtrl { run := .paused, faultRecord := none, startChainage := some 0, chainageAtPause := some c }

/-- A run in FAULT. -/
def faulted : State :=
  locked.withCtrl { run := .fault, faultRecord := some { cause := .headStall, ringSeq := 0, chainage := 0 },
                    startChainage := some 0, chainageAtPause := none }

/-- A request waiting, the link UP. -/
def asking (s : State) (kind : Byte) (payload : List Byte) : State :=
  s.withLink { s.link with
    sync := { held := true, idles := 0, invalids := 0 }, requests := [{ kind := kind, tag := 5, payload := payload }] }

/-- The event queue with `n` records. -/
def withEvents (s : State) (n : Nat) : State :=
  s.withLink { s.link with events := List.replicate n { ringSeq := 0, body := .headNote [1] } }

/-- A route table of a SEGMENT and two REFERENCE entries. -/
def table : List RouteEntry := [.segment 0 (some 0) none, .reference 100 7, .reference 100 8]

def routed (s : State) : State := s.withRoute { s.route with entries := table }

/-- An intrusion that owns sector 5. -/
def intrusion : Intrusion :=
  { number := 1, first := 5, span := 1, openChainage := 0, openRing := 1, peakClearance := -3, peakAngle := 320,
    peakChainage := 0, peakRing := 1, confirmedRings := 1, slotAtOpen := none, late := false, owned := 1,
    struck := false, unguardedNote := false }

/-- The intrusion open in a state. -/
def withIntrusion (s : State) (alert : Bool) : State :=
  s.withTracker { s.tracker with
    table := [intrusion], counter := 2, alert := alert, sectors := s.tracker.sectors.set 5 (.confirmed 1) }

theorem offers_of (s : State) (k : RequestKind) (payload : List Byte) (h1 : s.link.agent = .free)
    (h2 : s.link.responses.length < 4) :
    (asking s k.code payload).Offers k { kind := k.code, tag := 5, payload := payload } [] := ⟨rfl, rfl, h1, h2⟩

/-! ### Meeting the hypotheses of the obligations -/

theorem witness_HeadFrameRoundTrip :
    (HeadFrame.ringStart 0x1234).legal = true ∧ (HeadFrame.sampleRun 0 1 [twoSamples[0]]).legal = true ∧
    (HeadFrame.sampleRun 0x3FFF 16 (List.replicate 64 twoSamples[0])).legal = true ∧
    (HeadFrame.headStatus [1]).legal = true ∧ (HeadFrame.headStatus (List.replicate 16 1)).legal = true := by
  decide +kernel

theorem witness_RequestFrameRoundTrip :
    ({ kind := 1, tag := 0, payload := [] } : Request).payload.length < 65536 ∧
    ({ kind := 1, tag := 0, payload := List.replicate 65535 0 } : Request).payload.length < 65536 :=
  ⟨by decide, by show (List.replicate 65535 (0 : Byte)).length < 65536; rw [List.length_replicate]; decide⟩

theorem witness_StepRunsFrontCommand : (opened 0 0 |>.withPending [.headStall, .markPress]).pending = [.headStall, .markPress] :=
  rfl

/-- Every input at its accepted low level, TAG_STB one sample short of a rising edge; the stall timer at its expiry. -/
def ticking : State :=
  let low : Filter := { accepted := some .low, runCount := 0 }
  (((waiting.withPins { waiting.pins with tagStb := .high }).withFilters
    { whlA := low, whlB := low, whrA := low, whrB := low, markKey := low
      tagStb := { accepted := some .low, runCount := 3999 } }).withClock
    { timeBase := 40000, sinceUpdate := 999 })

/-- An update due, a strobe's run complete and no other, an expiry reached; a HEAD_PASS at its last cycle and at its first,
a frame at its last symbol and at its first; a request to take, and none. -/
theorem witness_IdleStepIsOneMicrosecond :
    let pass (n : Nat) : State := ticking.withLink { ticking.link with agent := .headPass 5 [0x81] n }
    let frame (n : Nat) : State :=
      ticking.withLink { ticking.link with tx := some { source := .event, frame := List.replicate 30 0, sent := n } }
    (ticking.pending = [] ∧ 1000 ≤ ticking.clock.sinceUpdate + 1) ∧
    (ticking.eff Param.inputConstant = 3 ∧ 1000 * 2 ^ (3 - 1) ≤ (ticking.filters.get .tagStb).runCount + 1 ∧
      (∀ i ∈ [InputPin.whlA, .whlB, .whrA, .whrB, .markKey],
        (ticking.filters.get i).accepted = some (ticking.pins.get i))) ∧
    (ticking.ring.stall = some ticking.clock.timeBase ∧ waiting.ring.stall ≠ some waiting.clock.timeBase) ∧
    ((pass 2145).link.agent = .headPass 5 [0x81] 2145 ∧ 2170 * 1 ≤ 2145 + 25 ∧ 2144 + 25 < 2170 * 1) ∧
    ((frame 11).link.tx = some { source := .event, frame := List.replicate 30 0, sent := 11 } ∧ 30 + 1 ≤ 11 + 20 ∧
      10 + 20 < 30 + 1 ∧ ticking.link.tx = none) ∧
    (asking ticking 0x01 []).link.agent = .free ∧ (asking ticking 0x01 []).link.responses.length < 4 ∧
    ticking.link.requests = [] := by decide +kernel

/-- A RUNNING state with an open ring, an open intrusion, and an expiry waiting. -/
def busy : State := (withIntrusion (opened 40000 0) true).withPending [.headStall]

theorem busy_steps : ∃ t, step busy = .next t := ⟨_, rfl⟩

theorem witness_CapacityKept : busy.WithinCapacity ∧ ∃ t, step busy = .next t :=
  ⟨⟨by decide +kernel, by decide +kernel, by decide +kernel, by decide +kernel, by decide +kernel⟩, busy_steps⟩

/-- A profile of which the first segment has been sent. -/
def sendingProfile : Profile where
  ring := ring
  summary := .none
  truncated := false
  skipped := 0
  points := []
  nextSegment := 1
  spacingFill := 0

/-- The same with the ring's profile slot FILLING and slot 1 being sent. -/
def profiling : State :=
  busy.withLink { busy.link with
    tx := some { source := .segment 1, frame := [], sent := 0 }, readyOrder := [1]
    slots := #v[.filling [] 0 false, .sending sendingProfile, .free] }

theorem profiling_slots (k : Fin 3) : profiling.link.slots[k] =
    if k = 0 then .filling [] 0 false
    else if k = 1 then .sending sendingProfile
    else .free := by
  match k with
  | 0 => rfl
  | 1 => rfl
  | 2 => rfl

theorem profiling_coherent : profiling.ProfilesCoherent where
  filling k := by
    rw [profiling_slots]
    constructor
    · rintro ⟨p, n, b, h⟩
      refine ⟨ring, rfl, ?_⟩
      split at h
      · next h0 => rw [h0]; rfl
      · split at h <;> cases h
    · rintro ⟨r, h, hk⟩
      cases h
      obtain rfl : k = 0 := (Option.some.inj hk).symm
      exact ⟨_, _, _, rfl⟩
  once := by decide
  ready k := by
    rw [profiling_slots]
    match k with
    | 0 => decide
    | 1 => decide
    | 2 => decide
  first k p h := by
    rw [profiling_slots] at h
    split at h
    · cases h
    · split at h
      · next h1 => rw [h1]; rfl
      · cases h
  sent x k h hx := by
    cases h
    cases hx
    rfl
  points k := by
    rw [profiling_slots]
    constructor
    · intro p n b h
      split at h
      · cases h; decide
      · split at h <;> cases h
    · intro p h
      split at h
      · cases h
      · split at h
        · cases h; decide
        · cases h

theorem witness_RunCoherentKept : busy.RunCoherent ∧ profiling.RunCoherent ∧ profiling.ProfilesCoherent ∧
    (∃ t, step busy = .next t) ∧ ∃ t, step profiling = .next t :=
  ⟨⟨by decide +kernel, by decide +kernel, by decide +kernel, by decide +kernel, by decide +kernel, by decide +kernel,
    by decide +kernel⟩, ⟨by decide +kernel, by decide +kernel, by decide +kernel, by decide +kernel, by decide +kernel,
    by decide +kernel, by decide +kernel⟩, profiling_coherent, busy_steps, _, rfl⟩

theorem witness_EnvelopesCoherentKept : busy.EnvelopesCoherent ∧ ∃ t, step busy = .next t := by
  have h : busy.envelopes = Vector.replicate 8 .empty := rfl
  refine ⟨fun k => ?_, busy_steps⟩
  simp only [h, Fin.getElem_fin, Vector.getElem_replicate]
  exact ⟨fun e => (by cases e), fun _ => rfl⟩

theorem witness_ValuesInRangeKept : busy.AccumulatorInRange ∧ busy.EffectAdmitted ∧ ∃ t, step busy = .next t :=
  ⟨⟨by decide +kernel, by decide +kernel⟩, ⟨by decide +kernel, by decide +kernel⟩, busy_steps⟩

theorem busy_sectors (i : Sector) : busy.tracker.sectors[i] = if i = 5 then .confirmed 1 else .clear := by
  have e : busy.tracker.sectors = (Vector.replicate 256 .clear).set 5 (.confirmed 1) := rfl
  by_cases h5 : i = 5
  · subst h5
    rfl
  · have h6 : (5 : Nat) ≠ i.val := fun k => h5 (Fin.ext k.symm)
    rw [if_neg h5]
    simp [e, h6]

theorem busy_owner (i : Sector) (n : Nat) (h : busy.tracker.sectors[i].owner = some n) : i = 5 ∧ n = 1 := by
  rw [busy_sectors] at h
  split at h
  · next h5 => exact ⟨h5, (Option.some.inj h).symm⟩
  · cases h

theorem busy_spans : busy.tracker.Spans where
  lengths := by decide +kernel
  apart := List.pairwise_singleton _ _
  inside i x hx h := by
    obtain rfl := List.mem_singleton.mp hx
    rw [(busy_owner i _ h).1]
    decide

theorem busy_negative : busy.tracker.Negative where
  peaks := by decide +kernel
  streaks i k st h := by
    rw [busy_sectors] at h
    split at h <;> simp at h
  offers i h := by
    have e : busy.tracker.accumulators = Vector.replicate 256 .empty := rfl
    simp [e, Accumulator.empty] at h

theorem busy_counts : busy.CountsBelow := by
  intro i k
  rw [busy_sectors]
  split <;> simp

theorem witness_OwnershipKept : busy.tracker.Owned ∧ busy.tracker.Spans ∧ busy.tracker.Negative ∧ busy.EffectAdmitted ∧
    busy.CountsBelow ∧ ∃ t, step busy = .next t := by
  refine ⟨⟨by decide +kernel, by decide +kernel, by decide +kernel, ?_, fun i n hi => ?_⟩, busy_spans, busy_negative,
    ⟨by decide +kernel, by decide +kernel⟩, busy_counts, busy_steps⟩
  · intro x hx
    obtain rfl := List.mem_singleton.mp hx
    refine ⟨Nat.le_refl 1, ?_⟩
    have h : ∀ i : Sector, busy.tracker.sectors[i].owner = if i = 5 then some 1 else none := by
      intro i
      rw [busy_sectors]
      split <;> rfl
    simp only [SectorTracker.ownedBy, h, intrusion]
    decide +kernel
  · exact ⟨intrusion, List.mem_singleton.mpr rfl, ((busy_owner i n hi).2).symm⟩

/-- The response to an accepted RESET. -/
def resetDone : Response := { tag := 5, kind := 0x7F, result := .done, reason := none, payload := [] }

/-- The RESET response being sent in a run RUNNING, an upstream frame begun. -/
def resetting : State :=
  (opened 0 0).withLink { (opened 0 0).link with
    agent := .resetWaiting, responses := [resetDone], tx := some { source := .response, frame := [], sent := 0 }
    partFrame := some [.data 1] }

/-- The head link in SEARCHING, one good frame short of lock. -/
def seeking : State := locked.withHead { locked.head with lock := .searching, goodRun := 3 }

/-- A head frame under way. -/
def midFrame (s : State) : State := s.withHead { s.head with partFrame := some [0x02, 0x07] }

/-- Each way of being bad: the check fails, a delimiter comes early, an invalid symbol comes. -/
theorem hears_bad (s : State) (hs : s.head.symbolLock = true) (hp : s.head.partFrame = none) :
    s.HearsBad (framed (ringStartBytes.set 3 0)) { s.head with sync := s.head.sync.heard } ∧
    s.HearsBad (framed [0x02, 0x07] ++ [.delimiter]) { s.head with sync := s.head.sync.heard, partFrame := some [] } ∧
    s.HearsBad (framed [0x02, 0x07] ++ [.invalid]) { s.head with sync := { s.head.sync with invalids := 1 } } :=
  ⟨⟨hs, hp, _, .inl ⟨rfl, by decide, by decide, by decide +kernel, rfl⟩⟩,
    ⟨hs, hp, _, .inr (.inl ⟨by decide, rfl, rfl⟩)⟩, hs, hp, _, .inr (.inr ⟨by decide, rfl, rfl⟩)⟩

/-- The response being sent; the Agent free; the response still waiting. -/
theorem witness_ResetTakesEffect :
    (resetting.link.agent = .resetWaiting ∧ resetting.link.tx = some { source := .response, frame := [], sent := 0 } ∧
      resetting.link.responses = [resetDone] ∧ resetDone.kind = 0x7F ∧ resetDone.result = .done) ∧
    locked.link.agent ≠ .resetWaiting ∧ (resetting.withLink { resetting.link with tx := none }).link.tx = none := by
  decide +kernel

theorem witness_HeadFramesInSearching :
    (seeking.head.symbolLock = true ∧ seeking.head.partFrame = none ∧ seeking.head.lock = .searching ∧
      parseHeadFrame ringStartBytes = some (7, .ringStart 0x1234)) ∧
    ∃ xs h, seeking.HearsBad xs h :=
  ⟨⟨rfl, rfl, rfl, test_ring_start_bytes⟩, _, _, (hears_bad seeking rfl rfl).1⟩

theorem witness_HeadFramesBadInLocked :
    let bad (s : State) (n : Nat) : State := s.withHead { s.head with badRun := n }
    (∀ s ∈ [bad locked 6, bad locked 7, bad waiting 7], (∃ xs h, s.HearsBad xs h) ∧ s.head.lock = .locked ∧ s.room 2 ∧
      s.room (s.tracker.table.length + 6)) ∧
      (bad locked 6).head.badRun + 1 < 8 ∧ (bad locked 7).ctrl.run ≠ .running ∧ (bad waiting 7).ctrl.run = .running := by
  have h (s : State) (hs : s.head.symbolLock = true) (hp : s.head.partFrame = none) : ∃ xs h, s.HearsBad xs h :=
    ⟨_, _, (hears_bad s hs hp).2.1⟩
  refine ⟨?_, by decide, by decide, rfl⟩
  simp only [List.forall_mem_cons]
  refine ⟨⟨h _ rfl rfl, rfl, ?_, ?_⟩, ⟨h _ rfl rfl, rfl, ?_, ?_⟩, ⟨h _ rfl rfl, rfl, ?_, ?_⟩, by simp⟩ <;>
    unfold State.room <;> decide

theorem receives_of (s : State) (h : s.head = locked.head) (frame : List Byte) (f : HeadFrame)
    (hf : parseHeadFrame frame = some (7, f)) : s.Receives frame 7 f :=
  ⟨by rw [h]; rfl, by rw [h]; rfl, by rw [h]; rfl, hf, by rw [h]; rfl⟩

/-- In sequence, and two frames missing, with no ring and with one open; a RING_START while INACTIVE. -/
theorem witness_SampleRunWithNoRing :
    (∀ s ∈ [locked, opened 100 0], s.head.symbolLock = true ∧ s.head.partFrame = none ∧ s.head.lock = .locked ∧
      s.head.lastSeq = some 6 ∧ s.room 1) ∧
    ((∀ r, locked.ring.asm ≠ .opened r) ∧ locked.ring.asm = .inactive) ∧
    parseHeadFrame twoSampleBytes = some (6 + 1, .sampleRun 0x0123 3 twoSamples) ∧
    parseHeadFrame ringStartBytes = some (6 + 1, .ringStart 0x1234) ∧
    parseHeadFrame lateSampleBytes = some (9, .sampleRun 0x0123 3 twoSamples) ∧ (9 : Byte) ≠ 6 + 1 := by
  refine ⟨?_, ⟨nofun, rfl⟩, test_two_sample_bytes, test_ring_start_bytes, test_late_sample_bytes, by decide⟩
  simp only [State.room]
  decide +kernel

/-- In sequence and two frames missing; the ring's profile slot FILLING, its points at their bound. -/
theorem witness_SampleRunCounted :
    ((opened 100 0).head.symbolLock = true ∧ (opened 100 0).head.partFrame = none ∧ (opened 100 0).head.lock = .locked ∧
      (opened 100 0).head.lastSeq = some 6 ∧ (opened 100 0).ring.asm = .opened ring ∧ (opened 100 0).room 1) ∧
    parseHeadFrame twoSampleBytes = some (7, .sampleRun 0x0123 3 twoSamples) ∧ ((7 : Byte) - (6 + 1)).toNat = 0 ∧
    parseHeadFrame lateSampleBytes = some (9, .sampleRun 0x0123 3 twoSamples) ∧ ((9 : Byte) - (6 + 1)).toNat = 2 ∧
    (ring.valid ≤ Config.top32 ∧ ring.dropout ≤ Config.top32 ∧ ring.outOfWindow ≤ Config.top32 ∧
      ring.framesMissing ≤ 65535) ∧
    (profiling.ring.asm = .opened ring ∧ ring.profileSlot = some 0 ∧
      profiling.link.slots[(0 : Fin 3)] = .filling [] 0 false ∧ ring.profileSlot ≠ some 1) ∧
    (List.replicate 4096 ({ angle := 0, judgement := .clear, y := 0, z := 0, intensity := 0 } : Point)).length ≤ 4096 :=
  ⟨⟨rfl, rfl, rfl, rfl, rfl, show 0 + 1 ≤ 64 by decide⟩, test_two_sample_bytes, by decide, test_late_sample_bytes, by decide,
    ⟨by decide, by decide, by decide, by decide⟩, ⟨rfl, rfl, rfl, by decide⟩, by rw [List.length_replicate]⟩

/-- Nothing pending and OFF_ROUTE; a fix pending and a LIVE write waiting; a ring in its segment's band; no FREE slot. -/
theorem witness_RingOpens :
    let fix : Fix := { offset := 3, origin := .tag 1 7, capture := 97 }
    let held := ((routed waiting).withOdo { waiting.odo with pendingFix := some fix }).withParams
      { waiting.params with liveWaiting := true }
    let inside := (routed waiting).withRoute { entries := table, current := some 0, lastApplied := none }
    (∀ s ∈ [waiting, held, inside, profiling], s.head = locked.head) ∧
    parseHeadFrame ringStartBytes = some (7, .ringStart 0x1234) ∧ (waiting.ring.asm = .waiting ∧ waiting.room 6) ∧
    (held.ring.asm = .waiting ∧ held.odo.pendingFix = some fix ∧ held.params.liveWaiting = true ∧ held.room 6) ∧
    (inside.route.entries[0]? = some (.segment 0 (some 0) none) ∧
      (0 : Int) - inside.eff Param.hysteresis ≤ inside.chainage ∧
      (inside.route.entries.drop 1).find? RouteEntry.isSegment = none) ∧
    (routed waiting).route.entries.find? RouteEntry.isSegment = some (.segment 0 (some 0) none) := by
  refine ⟨by decide +kernel, test_ring_start_bytes, ⟨rfl, show 0 + 6 ≤ 64 by decide⟩,
    ⟨rfl, rfl, rfl, show 0 + 6 ≤ 64 by decide⟩, ⟨rfl, by decide +kernel, rfl⟩, rfl⟩

/-- The ends of the window, both included. -/
theorem witness_RingAccepted :
    let low := opened 8750 3
    let high := opened 11250 3
    (low.Receives ringStartBytes 7 (.ringStart 0x1234) ∧ low.ctrl.run = .running ∧ low.ring.asm = .opened ring ∧
      low.ring.tMin ≤ (low.clock.timeBase - ring.openTime).toNat ∧
      (low.clock.timeBase - ring.openTime).toNat ≤ low.ring.tMax ∧ low.ring.accepted < Config.top32 ∧
      low.ring.ringSeq < Config.top32) ∧
    high.Receives ringStartBytes 7 (.ringStart 0x1234) ∧ high.ctrl.run = .running ∧ high.ring.asm = .opened ring ∧
    high.ring.tMin ≤ (high.clock.timeBase - ring.openTime).toNat ∧
    (high.clock.timeBase - ring.openTime).toNat ≤ high.ring.tMax ∧ high.ring.accepted < Config.top32 ∧
    high.ring.ringSeq < Config.top32 :=
  ⟨⟨receives_of (opened 8750 3) rfl _ _ test_ring_start_bytes, rfl, rfl, by decide, by decide, by decide, by decide⟩,
    receives_of (opened 11250 3) rfl _ _ test_ring_start_bytes, rfl, rfl, by decide, by decide, by decide, by decide⟩

/-- Room for what the pass gives and for the MARK record. -/
theorem witness_RingAccepted_room :
    (opened 8750 3).link.events.length + (((opened 8750 3).evaluate ring).out.length + 1) ≤ 64 := by decide +kernel

/-- SHORT one microsecond below the window, the third discard in a row. -/
theorem witness_RingDiscarded_short :
    let s := opened 8749 2
    s.Receives ringStartBytes 7 (.ringStart 0x1234) ∧ s.ctrl.run = .running ∧ s.ring.asm = .opened ring ∧
    (s.clock.timeBase - ring.openTime).toNat < s.ring.tMin ∧ s.ring.short < Config.top32 ∧ s.ring.long < Config.top32 ∧
    s.ring.ringSeq < Config.top32 ∧ s.room 8 ∧ s.ring.discards + 1 < 4 :=
  ⟨receives_of (opened 8749 2) rfl _ _ test_ring_start_bytes, rfl, rfl, by decide, by decide, by decide, by decide,
    by unfold State.room; decide, by decide⟩

/-- LONG one microsecond above it, the fourth discard in a row. -/
theorem witness_RingDiscarded_long :
    let s := opened 11251 3
    s.Receives ringStartBytes 7 (.ringStart 0x1234) ∧ s.ctrl.run = .running ∧ s.ring.asm = .opened ring ∧
    (s.ring.tMin ≤ s.ring.tMax ∧ s.ring.tMax < (s.clock.timeBase - ring.openTime).toNat) ∧ s.ring.short < Config.top32 ∧
    s.ring.long < Config.top32 ∧ s.ring.ringSeq < Config.top32 ∧ s.room 8 ∧ s.ring.discards = 3 ∧
    s.room (s.tracker.table.length + 6) :=
  ⟨receives_of (opened 11251 3) rfl _ _ test_ring_start_bytes, rfl, rfl, by decide, by decide, by decide, by decide,
    by unfold State.room; decide, rfl, by unfold State.room; decide⟩

/-- Head notes off: the parameter's value in effect 0. -/
def quiet : State := waiting.withParams { waiting.params with effect := waiting.params.effect.set Param.headNotes 0 }

/-- Room, none left in IDLE and in RUNNING, and head notes off. -/
theorem witness_HeadNoteQueuedOrLost :
    (∀ s ∈ [withEvents locked 63, withEvents locked 64, withEvents waiting 64, quiet],
      s.head.symbolLock = true ∧ s.head.partFrame = none ∧ s.head.lock = .locked ∧ s.head.lastSeq = some (7 - 1)) ∧
    parseHeadFrame headStatusBytes = some (7, .headStatus [0xAA, 0x55]) ∧
    ((withEvents locked 63).eff Param.headNotes = 1 ∧ (withEvents locked 63).room 1) ∧
    quiet.eff Param.headNotes ≠ 1 ∧
    ((withEvents locked 64).eff Param.headNotes = 1 ∧ ¬ (withEvents locked 64).room 1 ∧
      (withEvents locked 64).ctrl.run = .idle) ∧
    ((withEvents waiting 64).eff Param.headNotes = 1 ∧ ¬ (withEvents waiting 64).room 1 ∧
      (withEvents waiting 64).ctrl.run = .running) := by
  refine ⟨by decide +kernel, test_head_status_bytes, ?_⟩
  simp only [State.room]
  decide +kernel

theorem witness_HeadStallEndsRun :
    (busy.ring.stall.isSome = true ∧ busy.ctrl.run = .running ∧ busy.room (busy.tracker.table.length + 5)) ∧
      State.reset.ring.stall = none := by
  simp only [State.room]
  decide +kernel

/-- No symbol lock, with each count of K28.5; lock between frames; a frame under way in SEARCHING, and in LOCKED one bad
frame short of the eighth, and at it in IDLE and in RUNNING. -/
theorem witness_HeadSymbolLock :
    let counted (n : Nat) : State := State.reset.withHead
      { State.reset.head with sync := { held := false, idles := n, invalids := 0 } }
    let bad (s : State) (n : Nat) : State := midFrame (s.withHead { s.head with badRun := n })
    exec (.headFrameGood []) locked = .next locked ∧
    (∀ n ∈ [0, 1, 2], (counted n).head.symbolLock = false) ∧ ((counted 1).head.sync.idles < 2 ∧
      2 ≤ (counted 2).head.sync.idles) ∧
    (locked.head.symbolLock = true ∧ locked.head.partFrame = none ∧ locked.head.sync.invalids < 3) ∧
    (∀ s ∈ [midFrame seeking, bad locked 6, bad locked 7, bad waiting 7],
      s.head.symbolLock = true ∧ s.head.partFrame = some [0x02, 0x07] ∧ s.room 2) ∧
    headFrameWhole ([0x02, 0x07] ++ [2]) = false ∧ (midFrame seeking).head.lock = .searching ∧
    ((bad locked 6).head.lock = .locked ∧ (bad locked 6).head.badRun + 1 < 8 ∧ (bad locked 6).room 1) ∧
    ((bad locked 7).head.lock = .locked ∧ (bad locked 7).head.badRun = 7 ∧ (bad locked 7).ctrl.run ≠ .running) ∧
    ((bad waiting 7).head.lock = .locked ∧ (bad waiting 7).head.badRun = 7 ∧ (bad waiting 7).ctrl.run = .running) ∧
    Symbol.data 0 ≠ .idle := by
  refine ⟨rfl, ?_⟩
  simp only [State.room]
  decide +kernel

/-- Interval counts that differ by the tolerance plus one, and by the tolerance; an accumulator at its end; room for both
notices. -/
theorem witness_OdometerUpdate :
    let counts (l r : Int) : State := waiting.withOdo { waiting.odo with left := l, right := r }
    ((counts 9 0).room 2 ∧ (counts 8 0).room 2) ∧
    (waiting.eff Param.wheelMode = 0 ∧ waiting.eff Param.slipTolerance = 8) ∧
    (counts 9 0).eff Param.slipTolerance < |(counts 9 0).odo.left - (counts 9 0).odo.right| ∧
    |(counts 8 0).odo.left - (counts 8 0).odo.right| ≤ (counts 8 0).eff Param.slipTolerance ∧
    (2 : Int) ^ 48 - 1 < Config.accumulatorMax + (1 + 0) * waiting.eff Param.wheelConstant ∧
    (2 : Int) ^ 48 - 1 = Config.accumulatorMax := by
  simp only [State.room]
  refine ⟨by decide +kernel, ⟨by decide +kernel, by decide +kernel⟩, by decide +kernel, by decide +kernel,
    by decide +kernel, by decide +kernel⟩

/-- A run whose event queue is full loses the notice of a slip, ends in FAULT and cancels its pending fix. -/
theorem witness_OdometerUpdate_ends :
    let fix : Fix := { offset := 3, origin := .manual, capture := 0 }
    let full : State := (waiting.withOdo { waiting.odo with left := 9, right := 0, pendingFix := some fix }).withLink
      { waiting.link with events := List.replicate 64 { ringSeq := 0, body := .headNote [1] } }
    let s := full.withParams { full.params with effect := full.params.effect.set Param.reportEnable 15 }
    (∃ t, exec .odometerUpdate s = .next t ∧ t.ctrl.run = .fault ∧ t.odo.pendingFix = none) ∧
      s.odo.pendingFix = some fix ∧ s.ctrl.run = .running := by
  refine ⟨⟨_, rfl, by decide +kernel, by decide +kernel⟩, by decide +kernel, by decide +kernel⟩

/-- From a decoder at its first position: one on, one back, none, two. -/
theorem witness_WheelDecode :
    let before := position (State.reset.acceptedLevel (wheelPinA .left)) (State.reset.acceptedLevel (wheelPinB .left))
    before = position .low .low ∧
    (position .high .low = before + 1 ∨ before = position .high .low + 1) ∧
    (position .low .high = before + 1 ∨ before = position .low .high + 1) ∧
    position .high .low ≠ position .low .high ∧ position .low .low = before ∧ position .high .high = before + 2 ∧
    State.reset.room 1 := by
  simp only [State.room]
  decide +kernel

/-- Two REFERENCE entries at one chainage, the lower index taken; a fix of another entry pending, or none. -/
theorem witness_TagStrobePlacesFix :
    let s := routed waiting
    (s.ctrl.run = .running ∧ s.route.entries[1]? = some (.reference 100 7) ∧
      (100 - s.chainage).natAbs ≤ s.effNat Param.matchWindow ∧ s.route.lastApplied ≠ some 1 ∧ s.room 1 ∧
      s.odo.pendingFix = none) ∧
    (∀ (j : Nat) (c' : Int) (l' : Nat), s.route.entries[j]? = some (.reference c' l') → j ≠ 1 →
      (100 - s.chainage).natAbs < (c' - s.chainage).natAbs ∨
        ((100 - s.chainage).natAbs = (c' - s.chainage).natAbs ∧ 1 < j)) ∧
    ∀ l, (FixOrigin.tag 2 8) ≠ .tag 1 l := by
  refine ⟨⟨rfl, rfl, by decide +kernel, by decide, by unfold State.room; decide, rfl⟩, ?_, by simp⟩
  intro j c' l' h hj
  match j with
  | 0 => simp [routed, table] at h
  | 1 => exact absurd rfl hj
  | 2 =>
    have e : c' = 100 := by
      simp [routed, table] at h
      exact h.1.symm
    subst e
    exact .inr ⟨rfl, by decide⟩
  | j + 3 => simp [routed, table] at h

/-- A strobe in IDLE, one with an empty table, one at the last applied entry, and one at the pending fix's entry, the
lower of two at one distance. -/
theorem witness_TagStrobeWithoutFix :
    let s := waiting.withRoute { entries := [.reference 100 7], current := none, lastApplied := some 0 }
    let fix : Fix := { offset := 3, origin := .tag 1 7, capture := 97 }
    let twice := (routed waiting).withOdo { waiting.odo with pendingFix := some fix }
    State.reset.ctrl.run = .idle ∧
    (waiting.ctrl.run = .running ∧ waiting.room 2 ∧
      ∀ (j : Nat) (c : Int) (l : Nat), waiting.route.entries[j]? = some (.reference c l) →
        waiting.effNat Param.matchWindow < (c - waiting.chainage).natAbs) ∧
    (s.ctrl.run = .running ∧ s.room 1 ∧ s.route.lastApplied = some 0 ∧
      s.route.entries[0]? = some (.reference 100 7) ∧ (100 - s.chainage).natAbs ≤ s.effNat Param.matchWindow ∧
      ∀ (j : Nat) (c' : Int) (l' : Nat), s.route.entries[j]? = some (.reference c' l') → j ≠ 0 →
        (100 - s.chainage).natAbs < (c' - s.chainage).natAbs) ∧
    twice.ctrl.run = .running ∧ twice.room 1 ∧ twice.odo.pendingFix = some fix ∧ fix.origin = .tag 1 7 ∧
    twice.route.entries[1]? = some (.reference 100 7) ∧ (100 - twice.chainage).natAbs ≤ twice.effNat Param.matchWindow ∧
    ∀ (j : Nat) (c' : Int) (l' : Nat), twice.route.entries[j]? = some (.reference c' l') → j ≠ 1 →
      (100 - twice.chainage).natAbs < (c' - twice.chainage).natAbs ∨
        ((100 - twice.chainage).natAbs = (c' - twice.chainage).natAbs ∧ 1 < j) := by
  refine ⟨rfl, ⟨rfl, by unfold State.room; decide, ?_⟩, ⟨rfl, by unfold State.room; decide, rfl, rfl,
    by decide +kernel, ?_⟩, rfl, show 0 + 1 ≤ 64 by decide, rfl, rfl, rfl, by decide +kernel, ?_⟩
  · intro j c l h
    simp [waiting, locked, State.reset] at h
  · intro j c' l' h hj
    obtain ⟨k, rfl⟩ := Nat.exists_eq_succ_of_ne_zero hj
    simp at h
  · exact witness_TagStrobePlacesFix.2.1

/-- A ring open with its held mark at 255 presses and with none; no ring open. -/
theorem witness_MarkPress :
    (opened 0 0).ring.asm = .opened ring ∧ (opened 0 0).ctrl.run = .running ∧ waiting.openRing = none ∧
    (pausedAt 0).ctrl.run ≠ .running := by decide +kernel

/-- TAG_STB accepted low, and accepted high. -/
theorem witness_InputEdges :
    State.reset.acceptedLevel (edgePin .tagStb) = .low ∧
    (State.reset.acceptLevel .tagStb .high).acceptedLevel (edgePin .tagStb) = .high ∧
    InputPin.whlA ≠ edgePin .tagStb := by
  decide

/-! ### Requests -/

/-- A kind byte that names no request, and lengths one off at both ends. -/
theorem witness_UnknownKindAndBadLength :
    ((asking State.reset 0x99 []).link.requests = [{ kind := 0x99, tag := 5, payload := [] }] ∧
      (∀ k : RequestKind, (0x99 : Byte) ≠ k.code) ∧ (asking State.reset 0x99 []).link.agent = .free ∧
      (asking State.reset 0x99 []).link.responses.length < 4 ∧ (asking State.reset 0x99 []).room 1) ∧
    (asking State.reset RequestKind.headPass.code []).Offers .headPass { kind := 0x60, tag := 5, payload := [] } [] ∧
    ¬ RequestKind.headPass.legalLength 0 ∧ ¬ RequestKind.headPass.legalLength 33 ∧
    ¬ RequestKind.identify.legalLength 1 ∧ ¬ RequestKind.setParam.legalLength 4 ∧
    ¬ RequestKind.loadEnvelope.legalLength 2 ∧ ¬ RequestKind.loadEnvelope.legalLength 132 ∧
    ¬ RequestKind.loadRoute.legalLength 2 ∧ ¬ RequestKind.loadRoute.legalLength 266 := by
  refine ⟨⟨rfl, fun k => by cases k <;> decide, rfl, by decide, by unfold State.room; decide⟩,
    offers_of _ _ _ rfl (by decide), ?_, ?_, ?_, ?_, ?_, ?_, ?_, ?_⟩ <;> simp only [RequestKind.legalLength] <;> omega

theorem witness_WrongStateRefused :
    (asking waiting RequestKind.start.code [0, 0, 0, 0]).Offers .start
      { kind := 0x40, tag := 5, payload := [0, 0, 0, 0] } [] ∧
    (asking waiting RequestKind.start.code [0, 0, 0, 0]).room 1 ∧ RequestKind.start.legalLength 4 ∧
    RequestKind.start.refusedIn waiting.ctrl.run ∧ RequestKind.pause.refusedIn State.reset.ctrl.run ∧
    RequestKind.resume.refusedIn waiting.ctrl.run ∧ RequestKind.stop.refusedIn faulted.ctrl.run ∧
    RequestKind.clearFault.refusedIn waiting.ctrl.run ∧ RequestKind.fixChainage.refusedIn faulted.ctrl.run ∧
    RequestKind.loadRoute.refusedIn waiting.ctrl.run ∧ RequestKind.trimRoute.refusedIn (pausedAt 0).ctrl.run := by
  refine ⟨offers_of _ _ _ rfl (by decide), by unfold State.room; decide, rfl, ?_⟩
  simp only [RequestKind.refusedIn]
  decide +kernel

/-- The first value out of range at each end, for a table of three entries; a load whose second entry has the first
undefined kind, the first undefined slot, or the first margin out of range. -/
theorem witness_OutOfRangeRefused :
    let s := routed State.reset
    let body (kind slot m0 m1 : Byte) : List Byte := [1, 0, 0, 0, 0, 0, 0, 0, kind, slot, m0, m1, 0, 0, 0, 0]
    (∀ (k : RequestKind) (payload : List Byte), (asking s k.code payload).Offers k
      { kind := k.code, tag := 5, payload := payload } [] ∧ (asking s k.code payload).room 1 ∧
      (asking s k.code payload).ctrl.run = .idle ∧ (asking s k.code payload).route.entries.length = 3) ∧
    ((0 : Byte).toNat = 0 ∧ 46 < (47 : Byte).toNat) ∧ 8 ≤ (8 : Byte).toNat ∧
    RequestKind.loadEnvelope.legalLength 4 ∧ (2 ≤ (2 : Byte).toNat ∧ 64 < (65 : Byte).toNat ∧ 32 < (33 : Byte).toNat) ∧
    3 < (4 : Byte).toNat + 256 * (0 : Byte).toNat ∧ RequestKind.loadRoute.legalLength 10 ∧
    512 < (0 : Byte).toNat + 256 * (2 : Byte).toNat + 8 / 8 ∧
    RequestKind.loadRoute.legalLength (2 + (body 2 0 0 0).length) ∧ 3 + (body 2 0 0 0).length / 8 ≤ 512 ∧
    2 ≤ ((body 2 0 0 0).getD (8 * 1 + 0) 0).toNat ∧
    (((body 0 8 0 0).getD (8 * 1 + 0) 0).toNat = 0 ∧ 8 ≤ ((body 0 8 0 0).getD (8 * 1 + 1) 0).toNat ∧
      ((body 0 8 0 0).getD (8 * 1 + 1) 0).toNat ≠ 255) ∧
    4095 < ((body 0 0 0 16).getD (8 * 1 + 2) 0).toNat + 256 * ((body 0 0 0 16).getD (8 * 1 + 3) 0).toNat :=
  ⟨fun k payload => ⟨offers_of _ _ _ rfl (by decide), show 0 + 1 ≤ 64 by decide, rfl, rfl⟩, by decide,
    by decide, ⟨1, by decide⟩, by decide, by decide, ⟨1, by decide⟩, by decide, ⟨2, by decide⟩, by decide, by decide,
    by decide, by decide⟩

theorem witness_IdentifyAnswers :
    (asking State.reset 0x01 []).Offers .identify { kind := 0x01, tag := 5, payload := [] } [] ∧
    (asking State.reset 0x01 [0]).Offers .identify { kind := 0x01, tag := 5, payload := [0] } [] ∧
    (asking State.reset 0x01 [0]).room 1 :=
  ⟨offers_of _ .identify _ rfl (by decide), offers_of _ .identify _ rfl (by decide), by unfold State.room; decide⟩

theorem witness_ReadStatusAnswers :
    (asking faulted 0x02 []).Offers .readStatus { kind := 0x02, tag := 5, payload := [] } [] :=
  offers_of _ .readStatus _ rfl (by decide)

theorem witness_ClearCausesClears :
    (asking faulted 0x03 [0xFF, 0, 0, 1]).Offers .clearCauses
      { kind := 0x03, tag := 5, payload := [0xFF, 0, 0, 1] } [] :=
  offers_of _ .clearCauses _ rfl (by decide)

theorem witness_ReadIntrusionsAnswers :
    (asking busy 0x50 []).Offers .readIntrusions { kind := 0x50, tag := 5, payload := [] } [] ∧
    busy.tracker.table = [intrusion] :=
  ⟨offers_of _ .readIntrusions _ rfl (by decide), rfl⟩

/-- One byte and 32; the Agent at the first cycle of a start bit and the last of a stop bit. -/
theorem witness_HeadPassAnswers :
    (asking State.reset 0x60 [0x81]).Offers .headPass { kind := 0x60, tag := 5, payload := [0x81] } [] ∧
    (asking State.reset 0x60 (List.replicate 32 0)).Offers .headPass
      { kind := 0x60, tag := 5, payload := List.replicate 32 0 } [] ∧
    (∀ c ∈ [0, (10 * 0 + 9) * 217 + 216], ∃ s : State, s.link.agent = .headPass 5 [0x81] c) ∧
    State.reset.link.agent = .free :=
  ⟨offers_of _ .headPass _ rfl (by decide), offers_of _ .headPass _ rfl (by decide),
    fun c _ => ⟨State.reset.withLink { State.reset.link with agent := .headPass 5 [0x81] c }, rfl⟩, rfl⟩

theorem witness_ResetRequestHolds :
    (asking State.reset 0x7F []).Offers .reset { kind := 0x7F, tag := 5, payload := [] } [] ∧
    (State.reset.withLink { State.reset.link with agent := .resetWaiting }).link.agent = .resetWaiting :=
  ⟨offers_of _ .reset _ rfl (by decide), rfl⟩

/-- A pair clamped to equal ends, and one a millimetre apart; a RUN parameter; a LIVE one in RUNNING and in IDLE. -/
theorem witness_SetParamStores :
    (let image := (defaultParams.set Param.minRange 500).set Param.maxRange 500
     max 1 (min 65534 image[Param.maxRange]) ≤ max 0 (min 65534 image[Param.minRange])) ∧
    (let image := (defaultParams.set Param.minRange 499).set Param.maxRange 500
     max 0 (min 65534 image[Param.minRange]) < max 1 (min 65534 image[Param.maxRange])) ∧
    (∀ s ∈ [waiting, State.reset], ∀ id : Byte, (asking s 0x10 [id, 1, 0, 0, 0]).Offers .setParam
      { kind := 0x10, tag := 5, payload := [id, 1, 0, 0, 0] } [] ∧ (asking s 0x10 [id, 1, 0, 0, 0]).room 1) ∧
    ((1 : Byte).toNat = Param.angleOffset.val + 1 ∧ (paramRow Param.angleOffset).cls ≠ .live) ∧
    ((46 : Byte).toNat = Param.maxPayload.val + 1 ∧ (paramRow Param.maxPayload).cls ≠ .live) ∧
    ((44 : Byte).toNat = Param.reportEnable.val + 1 ∧ (paramRow Param.reportEnable).cls = .live) ∧
    waiting.ctrl.run = .running ∧ State.reset.ctrl.run ≠ .running := by
  refine ⟨by decide +kernel, by decide +kernel, fun s hs id => ?_, by decide, by decide, by decide, rfl, by decide⟩
  simp only [List.mem_cons, List.not_mem_nil, or_false] at hs
  rcases hs with rfl | rfl
  · exact ⟨offers_of _ .setParam _ rfl (by decide), show 0 + 1 ≤ 64 by decide⟩
  · exact ⟨offers_of _ .setParam _ rfl (by decide), show 0 + 1 ≤ 64 by decide⟩

theorem witness_GetParamAnswers :
    (asking waiting 0x11 [46]).Offers .getParam { kind := 0x11, tag := 5, payload := [46] } [] ∧
    (46 : Byte).toNat = Param.maxPayload.val + 1 :=
  ⟨offers_of _ .getParam _ rfl (by decide), by decide⟩

/-- Slot 7 in pending state `p`. -/
def slotSeven (s : State) (p : PendingState) : State :=
  s.withEnvelopes (s.envelopes.set 7 { EnvelopeSlot.empty with state := p })

/-- A load that wraps past sector 255, of a slot not WAITING and of one WAITING. -/
theorem witness_LoadEnvelopeWrites :
    (∀ p : PendingState, (asking (slotSeven waiting p) 0x20 [7, 255, 1, 2, 3, 4]).Offers .loadEnvelope
      { kind := 0x20, tag := 5, payload := [7, 255, 1, 2, 3, 4] } [] ∧
      (slotSeven waiting p).envelopes[(7 : SlotId)].state = p ∧ (asking (slotSeven waiting p) 0x20 [7, 255, 1, 2, 3, 4]).room 1) ∧
    RequestKind.loadEnvelope.legalLength 6 ∧ (7 : Byte).toNat = (7 : SlotId).val ∧
    (255 + 1) % 256 = (0 : Sector).val := by
  refine ⟨fun p => ⟨offers_of _ .loadEnvelope _ rfl (show 0 < 4 by decide), ?_, show 0 + 1 ≤ 64 by decide⟩,
    ⟨2, by decide⟩, by decide, by decide⟩
  simp [slotSeven]

theorem witness_CommitEnvelopeActs (p : PendingState) :
    (asking (slotSeven waiting p) 0x21 [7]).Offers .commitEnvelope { kind := 0x21, tag := 5, payload := [7] } [] ∧
    (slotSeven waiting p).envelopes[(7 : SlotId)].state = p ∧ (7 : Byte).toNat = (7 : SlotId).val ∧
    (asking waiting 0x21 [8]).Offers .commitEnvelope { kind := 0x21, tag := 5, payload := [8] } [] ∧
    8 ≤ (8 : Byte).toNat ∧ (asking waiting 0x21 []).Offers .commitEnvelope { kind := 0x21, tag := 5, payload := [] } [] ∧
    (asking waiting 0x21 []).room 1 := by
  refine ⟨offers_of _ .commitEnvelope _ rfl (show 0 < 4 by decide), ?_, by decide,
    offers_of _ .commitEnvelope _ rfl (by decide), by decide, offers_of _ .commitEnvelope _ rfl (by decide),
    show 0 + 1 ≤ 64 by decide⟩
  simp [slotSeven]

theorem witness_ReadEnvelopeAnswers :
    (asking waiting 0x22 [7, 1, 255, 64]).Offers .readEnvelope
      { kind := 0x22, tag := 5, payload := [7, 1, 255, 64] } [] ∧
    (7 : Byte).toNat = (7 : SlotId).val ∧ (1 : Byte).toNat ≤ 1 ∧ 1 ≤ (64 : Byte).toNat ∧ (64 : Byte).toNat ≤ 64 :=
  ⟨offers_of _ .readEnvelope _ rfl (by decide), by decide, by decide, by decide, by decide⟩

/-- A load of two entries over the last one of a table of three, in FAULT. -/
theorem witness_LoadRouteWrites :
    let es : List RouteEntry := [.segment (-5) (some 7) (some 4095), .reference 6 65535]
    let s := asking (routed faulted) 0x30 (leBytes 2 2 ++ es.flatMap RouteEntry.bytes)
    s.Offers .loadRoute { kind := 0x30, tag := 5, payload := leBytes 2 2 ++ es.flatMap RouteEntry.bytes } [] ∧
    1 ≤ es.length ∧ es.length ≤ 32 ∧ 2 ≤ s.route.entries.length ∧ 2 + es.length ≤ 512 ∧ s.ctrl.run = .fault ∧
    (∀ e ∈ es, match e with
      | .segment c _ m => -2 ^ 31 ≤ c ∧ c < 2 ^ 31 ∧ (∀ w, m = some w → w ≤ 4095)
      | .reference c l => -2 ^ 31 ≤ c ∧ c < 2 ^ 31 ∧ l < 65536) := by
  refine ⟨offers_of _ .loadRoute _ rfl (by decide), by decide, by decide, by decide, by decide, rfl, ?_⟩
  intro e he
  simp only [List.mem_cons, List.not_mem_nil, or_false] at he
  rcases he with rfl | rfl <;> simp

/-- The last length and first index in range, the first out of range, a run RUNNING, and wrong lengths. -/
theorem witness_TrimAndReadRoute :
    (asking (routed faulted) 0x31 [4, 0]).Offers .trimRoute { kind := 0x31, tag := 5, payload := [4, 0] } [] ∧
    (asking (routed faulted) 0x31 [4, 0]).room 1 ∧ 3 < (4 : Byte).toNat + 256 * (0 : Byte).toNat ∧
    (asking (routed waiting) 0x31 [4, 0]).Offers .trimRoute { kind := 0x31, tag := 5, payload := [4, 0] } [] ∧
    (asking (routed waiting) 0x31 [4, 0]).room 1 ∧ (routed waiting).ctrl.run = .running ∧
    (asking (routed waiting) 0x31 [4]).Offers .trimRoute { kind := 0x31, tag := 5, payload := [4] } [] ∧
    (asking (routed waiting) 0x31 [4]).room 1 ∧
    (asking (routed waiting) 0x32 [4]).Offers .readRoute { kind := 0x32, tag := 5, payload := [4] } [] ∧
    (asking (routed waiting) 0x32 [4]).room 1 ∧
    (asking (routed waiting) 0x32 [4, 0, 33]).Offers .readRoute { kind := 0x32, tag := 5, payload := [4, 0, 33] } [] ∧
    (asking (routed waiting) 0x32 [4, 0, 33]).room 1 ∧ 32 < (33 : Byte).toNat ∧
    (asking (routed faulted) 0x31 [3, 0]).Offers .trimRoute { kind := 0x31, tag := 5, payload := [3, 0] } [] ∧
    (3 : Byte).toNat + 256 * (0 : Byte).toNat ≤ (routed faulted).route.entries.length ∧
    (routed faulted).ctrl.run = .fault ∧
    (asking (routed waiting) 0x32 [3, 0, 32]).Offers .readRoute
      { kind := 0x32, tag := 5, payload := [3, 0, 32] } [] ∧ 1 ≤ (32 : Byte).toNat ∧ (32 : Byte).toNat ≤ 32 :=
  ⟨offers_of _ .trimRoute _ rfl (by decide), show 0 + 1 ≤ 64 by decide, by decide,
    offers_of _ .trimRoute _ rfl (by decide), show 0 + 1 ≤ 64 by decide, rfl,
    offers_of _ .trimRoute _ rfl (by decide), show 0 + 1 ≤ 64 by decide,
    offers_of _ .readRoute _ rfl (by decide), show 0 + 1 ≤ 64 by decide,
    offers_of _ .readRoute _ rfl (by decide), show 0 + 1 ≤ 64 by decide, by decide,
    offers_of _ .trimRoute _ rfl (by decide), by decide, rfl, offers_of _ .readRoute _ rfl (by decide), by decide,
    by decide⟩

theorem witness_RouteValidation : firstOffending table = none := by decide +kernel

theorem witness_StartBeginsRun :
    (asking (routed locked) 0x40 [0, 0, 0, 0x80]).Offers .start
      { kind := 0x40, tag := 5, payload := [0, 0, 0, 0x80] } [] ∧
    (routed locked).ctrl.run = .idle ∧ (routed locked).head.lock = .locked ∧
    firstOffending (routed locked).route.entries = none ∧ (asking (routed locked) 0x40 [0, 0, 0, 0x80]).room 1 :=
  ⟨offers_of _ .start _ rfl (by decide), rfl, rfl, witness_RouteValidation, show 0 + 1 ≤ 64 by decide⟩

/-- The receiver SEARCHING; the receiver LOCKED and an empty table. -/
theorem witness_StartRefused :
    (∀ s ∈ [State.reset, locked], (asking s 0x40 [0, 0, 0, 0]).Offers .start
      { kind := 0x40, tag := 5, payload := [0, 0, 0, 0] } [] ∧ (asking s 0x40 [0, 0, 0, 0]).room 1 ∧
      s.ctrl.run = .idle) ∧
    State.reset.head.lock = .searching ∧ locked.head.lock = .locked ∧
    firstOffending locked.route.entries = some 0 := by
  refine ⟨fun s hs => ?_, rfl, rfl, rfl⟩
  simp only [List.mem_cons, List.not_mem_nil, or_false] at hs
  rcases hs with rfl | rfl
  · exact ⟨offers_of _ .start _ rfl (by decide), show 0 + 1 ≤ 64 by decide, rfl⟩
  · exact ⟨offers_of _ .start _ rfl (by decide), show 0 + 1 ≤ 64 by decide, rfl⟩

/-- A ring open with a held mark and a profile slot. -/
theorem witness_PauseLeavesRunning :
    (asking (opened 0 0) 0x41 []).Offers .pause { kind := 0x41, tag := 5, payload := [] } [] ∧
    (opened 0 0).ctrl.run = .running ∧ (asking (opened 0 0) 0x41 []).room 2 ∧ (opened 0 0).ring.asm = .opened ring ∧
    ring.heldMark.isSome = true ∧ ring.profileSlot = some 0 :=
  ⟨offers_of _ .pause _ rfl (by decide), rfl, show 0 + 2 ≤ 64 by decide, rfl, rfl, rfl⟩

/-- The receiver SEARCHING; a move of exactly max_gap; one of a millimetre more, with an intrusion open. -/
theorem witness_ResumeReturns :
    (∀ c : Int, (asking (withIntrusion (pausedAt c) false) 0x42 []).Offers .resume
      { kind := 0x42, tag := 5, payload := [] } [] ∧
      (withIntrusion (pausedAt c) false).ctrl.run = .paused ∧
      (withIntrusion (pausedAt c) false).ctrl.chainageAtPause = some c ∧
      (withIntrusion (pausedAt c) false).head.lock = .locked ∧
      (asking (withIntrusion (pausedAt c) false) 0x42 []).room 1) ∧
    ((pausedAt 0).withHead State.reset.head).head.lock = .searching ∧
    |(pausedAt 1000).chainage - 1000| ≤ (pausedAt 1000).effNat Param.maxGap ∧
    ((pausedAt 1001).effNat Param.maxGap : Int) < |(pausedAt 1001).chainage - 1001| ∧
    (withIntrusion (pausedAt 1001) false).tracker.table.length = 1 :=
  ⟨fun c => ⟨offers_of _ .resume _ rfl (show 0 < 4 by decide), rfl, rfl, rfl, show 0 + 1 ≤ 64 by decide⟩, rfl,
    by decide +kernel, by decide +kernel, rfl⟩

/-- An intrusion open and a fix pending, in PAUSED and in RUNNING. -/
theorem witness_StopEndsRun :
    let fix : Fix := { offset := 3, origin := .tag 1 7, capture := 97 }
    let paused := (withIntrusion (pausedAt 0) false).withOdo { State.reset.odo with pendingFix := some fix }
    let running := (withIntrusion (opened 0 0) true).withOdo { State.reset.odo with pendingFix := some fix }
    ((asking paused 0x43 []).Offers .stop { kind := 0x43, tag := 5, payload := [] } [] ∧ paused.ctrl.run = .paused ∧
      (asking paused 0x43 []).room (paused.tracker.table.length + 2)) ∧
    (asking running 0x43 []).Offers .stop { kind := 0x43, tag := 5, payload := [] } [] ∧ running.ctrl.run = .running ∧
    (asking running 0x43 []).room (running.tracker.table.length + 4) :=
  ⟨⟨offers_of _ .stop _ rfl (by decide), rfl, show 0 + (1 + 2) ≤ 64 by decide⟩,
    offers_of _ .stop _ rfl (by decide), rfl, show 0 + (1 + 4) ≤ 64 by decide⟩

theorem witness_ClearFaultAndFixChainage :
    ((asking faulted 0x44 []).Offers .clearFault { kind := 0x44, tag := 5, payload := [] } [] ∧
      faulted.ctrl.run = .fault) ∧
    (∀ s ∈ [State.reset, waiting, pausedAt 0], (asking s 0x45 [1, 2, 3, 4]).Offers .fixChainage
      { kind := 0x45, tag := 5, payload := [1, 2, 3, 4] } [] ∧ (asking s 0x45 [1, 2, 3, 4]).room 1) ∧
    State.reset.ctrl.run = .idle ∧ waiting.ctrl.run = .running ∧ waiting.odo.pendingFix = none ∧
    (pausedAt 0).ctrl.run = .paused ∧
    ((pausedAt 0).withOdo { State.reset.odo with
      pendingFix := some { offset := 3, origin := .manual, capture := 0 } }).odo.pendingFix =
        some { offset := 3, origin := .manual, capture := 0 } := by
  refine ⟨⟨offers_of _ .clearFault _ rfl (by decide), rfl⟩, fun s hs => ?_, rfl, rfl, rfl, rfl, rfl⟩
  simp only [List.mem_cons, List.not_mem_nil, or_false] at hs
  rcases hs with rfl | rfl | rfl
  · exact ⟨offers_of _ .fixChainage _ rfl (by decide), show 0 + 1 ≤ 64 by decide⟩
  · exact ⟨offers_of _ .fixChainage _ rfl (by decide), show 0 + 1 ≤ 64 by decide⟩
  · exact ⟨offers_of _ .fixChainage _ rfl (by decide), show 0 + 1 ≤ 64 by decide⟩

/-! ### Recorder link -/

/-- The link UP with `n` requests and `m` responses queued. -/
def linked (n m : Nat) (a : Agent) : State :=
  State.reset.withLink { State.reset.link with
    sync := { held := true, idles := 0, invalids := 2 }, agent := a
    requests := List.replicate n { kind := 1, tag := 0, payload := [] }
    responses := List.replicate m { tag := 0, kind := 1, result := .done, reason := none, payload := [] } }

/-- The symbols of a frame begun. -/
def receiving (s : State) (part : List Symbol) : State := s.withLink { s.link with partFrame := some part }

/-- The link DOWN; a link UP after nothing and after part of a frame, with two invalid symbols; a bad frame; three
requests waiting; four with a RESET response waiting; four with three responses queued, and with three and a HEAD_PASS
under way. -/
theorem witness_RequestFrameTakenIn :
    State.reset.link.up = false ∧ parseRequest (.invalid :: getParamSymbols) = none ∧
    parseRequest getParamSymbols = some { kind := 0x11, tag := 5, payload := [24] } ∧
    ((linked 3 0 .free).link.up = true ∧ (linked 3 0 .free).link.partFrame = none ∧
      (linked 3 0 .free).link.sync.invalids < 3 ∧ exec (.requestFrame []) (linked 3 0 .free) = .next (linked 3 0 .free)) ∧
    (∀ part, (receiving (linked 3 0 .free) part).link.partFrame = some part) ∧
    (linked 3 0 .free).link.requests.length < 4 ∧ (linked 3 0 .free).room 1 ∧
    (4 ≤ (linked 4 1 .resetWaiting).link.requests.length ∧ (linked 4 1 .resetWaiting).link.agent.resetting = true) ∧
    (4 ≤ (linked 4 3 .free).link.requests.length ∧ (linked 4 3 .free).link.agent.resetting = false ∧
      (linked 4 3 .free).link.placesTaken < 4 ∧ (linked 4 3 .free).room 1) ∧
    4 ≤ (linked 4 3 (.headPass 0 [1] 0)).link.placesTaken ∧ (linked 4 3 (.headPass 0 [1] 0)).link.agent.resetting = false ∧
    (linked 4 3 (.headPass 0 [1] 0)).room 1 := by
  refine ⟨rfl, test_request_invalid_symbol, test_request_symbols, ⟨rfl, rfl, by decide, rfl⟩, fun _ => rfl, by decide,
    show 0 + 1 ≤ 64 by decide, ⟨by decide, rfl⟩, ⟨by decide, rfl, by decide, show 0 + 1 ≤ 64 by decide⟩, by decide, rfl,
    show 0 + 1 ≤ 64 by decide⟩

/-- A profile of one point, at its first segment. -/
def profile : Profile :=
  { ring := ring, summary := .none, truncated := false, skipped := 0
    points := [{ angle := 0, judgement := .clear, y := 0, z := 0, intensity := 0 }], nextSegment := 0, spacingFill := 0 }

/-- The link UP with a profile in slot 0, nothing else queued. -/
def profiled : State :=
  (linked 0 0 .free).withLink { (linked 0 0 .free).link with
    slots := (linked 0 0 .free).link.slots.set 0 (.ready profile), readyOrder := [0] }

/-- The link DOWN; a response queued; an event alone; a profile alone; nothing. -/
theorem witness_ArbiterOrder :
    State.reset.link.up = false ∧
    ((linked 0 1 .free).link.up = true ∧ (linked 0 1 .free).link.tx = none ∧ (linked 0 1 .free).link.responses ≠ []) ∧
    (withEvents (linked 0 0 .free) 1).link.responses = [] ∧ (withEvents (linked 0 0 .free) 1).link.events ≠ [] ∧
    (profiled.link.responses = [] ∧ profiled.link.events = [] ∧ profiled.link.readyOrder = [0] ∧
      profiled.link.slots[(0 : Fin 3)].profile = some profile) ∧
    (linked 0 0 .free).link.readyOrder = [] := by
  refine ⟨rfl, ⟨rfl, rfl, by decide⟩, rfl, by decide, ⟨rfl, rfl, rfl, rfl⟩, rfl⟩

/-- A frame of each source being sent, a response's during a HEAD_PASS too, an accepted RESET's; the link DOWN before its
second and third K28.5; the link UP before its third and fourth invalid symbol, outside a frame and inside one. -/
theorem witness_FramesAndLinkState :
    let sending (s : State) (x : TxSource) : State :=
      s.withLink { s.link with tx := some { source := x, frame := [], sent := 0 } }
    let passing := sending (linked 0 1 (.headPass 0 [1] 0)) .response
    let down (n : Nat) : State := State.reset.withLink { State.reset.link with
      sync := { held := false, idles := n, invalids := 0 } }
    let up (n : Nat) : State := State.reset.withLink { State.reset.link with
      sync := { held := true, idles := 0, invalids := n } }
    ((linked 0 1 .free).link.tx = none ∧ passing.link.responses =
      [{ tag := 0, kind := 1, result := .done, reason := none, payload := [] }] ∧
      passing.link.agent ≠ .resetWaiting) ∧
    (resetting.link.tx = some { source := .response, frame := [], sent := 0 } ∧ resetting.link.responses = [resetDone] ∧
      resetting.link.agent = .resetWaiting ∧ resetDone.kind = 0x7F ∧ resetDone.result = .done) ∧
    (sending (withEvents (linked 0 0 .free) 1) .event).link.tx = some { source := .event, frame := [], sent := 0 } ∧
    (sending profiled (.segment 0)).link.slots[(0 : Fin 3)].profile = some profile ∧
    ((down 1).link.up = false ∧ (down 1).link.sync.idles < 2 ∧ 2 ≤ (down 2).link.sync.idles ∧
      (down 2).link.partFrame = none) ∧
    (up 2).link.up = true ∧ (up 2).link.sync.invalids < 3 ∧ (up 2).link.partFrame = none ∧
    3 ≤ (up 3).link.sync.invalids ∧ (receiving (up 3) []).link.partFrame.isSome = true ∧ (receiving (up 3) []).room 1 :=
  ⟨⟨rfl, rfl, by decide⟩, ⟨rfl, rfl, rfl, rfl, rfl⟩, rfl, rfl, ⟨rfl, by decide, by decide, rfl⟩, rfl, by decide, rfl,
    by decide, rfl, show 0 + 1 ≤ 64 by decide⟩

/-- No point, and as many as a slot holds. -/
theorem witness_SegmentsCarryProfile :
    profile.points.length ≤ 4096 ∧ (List.replicate 4096 profile.points[0]).length ≤ 4096 ∧ (3 : Nat) ≤ 3 :=
  ⟨by decide, by rw [List.length_replicate], Nat.le_refl 3⟩

theorem witness_SampleStages :
    State.reset.EffectAdmitted ∧ validity State.reset twoSamples[0] = .valid ∧ (16383 : Nat) < 16384 :=
  ⟨⟨by decide +kernel, by decide +kernel⟩, by decide +kernel, by decide⟩

/-- A pass with sector 0 in each of its states, `mOn` and `mOff` 3. -/
def passAt (x : Persistence) : Pass :=
  { sectors := (Vector.replicate 256 .clear).set 0 x, table := [intrusion], counter := 2, out := [] }

def passEnv : PassEnv := { chainage := 0, sequence := 2, slot := none, mOn := 3, mOff := 3, replace := false }

def streak : Streak :=
  { startChainage := 0, startRing := 1, minClearance := -3, minAngle := 0, minChainage := 0, minRing := 1, late := false }

/-- An intrusion of one sector. -/
def single (number : Nat) (first : Sector) : Intrusion := { intrusion with number := number, first := first }

/-- A pass over a table, every sector CLEAR. -/
def passOver (table : List Intrusion) (counter : Nat) : Pass :=
  { sectors := Vector.replicate 256 .clear, table := table, counter := counter, out := [] }

/-- Sixteen intrusions far from sector 0, the last one the mildest of two equals. -/
def full : List Intrusion := (List.range 16).map fun n => single (n + 1) (Fin.ofNat 256 (20 + 2 * n))

theorem witness_SectorStepped :
    ((passAt .clear).sectors[(0 : Sector)] = .clear ∧ 2 ≤ passEnv.mOn) ∧
    ((passAt (.pending 1 streak)).sectors[(0 : Sector)] = .pending 1 streak ∧ 1 + 1 < passEnv.mOn) ∧
    ((passAt (.blocked streak)).sectors[(0 : Sector)] = .blocked streak ∧
      (passAt (.blocked streak)).sectors[(0 : Sector)].owner = none) ∧
    (passAt (.confirmed 1)).sectors[(0 : Sector)] = .confirmed 1 ∧
    (passAt (.releasing 1 1)).sectors[(0 : Sector)] = .releasing 1 1 ∧
    (passAt (.confirmed 1)).sectors[(0 : Sector)].owner = some 1 := by
  refine ⟨⟨rfl, by decide⟩, ⟨rfl, by decide⟩, ⟨rfl, rfl⟩, rfl, rfl, rfl⟩

/-- No candidate with room, with a full table and its victim, with the counter exhausted. -/
theorem witness_SectorStepped_alone :
    let near (x : Intrusion) : Prop :=
      x.contains 0 = true ∨ x.first = 0 + 1 ∨ x.first + Fin.ofNat 256 x.span = (0 : Sector)
    ((∀ x ∈ (passOver [intrusion] 2).table, ¬ near x) ∧ (passOver [intrusion] 2).counter ≤ Config.top32 ∧
      (passOver [intrusion] 2).table.length < 16) ∧
    Config.top32 < (passOver [intrusion] (2 ^ 32)).counter ∧
    (∀ x ∈ (passOver full 17).table, ¬ near x) ∧ 16 ≤ (passOver full 17).table.length ∧
    single 16 50 ∈ (passOver full 17).table ∧
    ∀ x ∈ (passOver full 17).table, x = single 16 50 ∨ x.peakClearance < (single 16 50).peakClearance ∨
      (x.peakClearance = (single 16 50).peakClearance ∧ x.number < (single 16 50).number) := by decide +kernel

/-- One candidate before, at and after sector 6; two on its two sides. -/
theorem witness_SectorStepped_joined :
    let near (x : Intrusion) : Prop :=
      x.contains 6 = true ∨ x.first = 6 + 1 ∨ x.first + Fin.ofNat 256 x.span = (6 : Sector)
    (∀ first ∈ [(5 : Sector), 6, 7], near (single 1 first) ∧
      (∀ x ∈ (passOver [single 1 first] 2).table, near x → x = single 1 first)) ∧
    ((passOver [single 1 5, single 2 7] 3).table.map Intrusion.number).Pairwise (· < ·) ∧
    (single 1 5).number < (single 2 7).number ∧ near (single 1 5) ∧ near (single 2 7) ∧
    ∀ x ∈ (passOver [single 1 5, single 2 7] 3).table, near x → x = single 1 5 ∨ x = single 2 7 := by decide +kernel

/-! ### Worked cases of the manual, one step each -/

/-- The next state of a command, or the state itself. -/
def after (c : Instr) (s : State) : State :=
  match exec c s with
  | .next t => t
  | _ => s

/-- The device of §7.11 as the stall timer expires. -/
def stalled : State :=
  let s := withEvents (opened 0 0) 62
  let fix : Fix := { offset := 12, origin := .tag 0 7, capture := 0 }
  let three := [31, 33, 34].map fun n => { intrusion with number := n }
  ((s.withRing { s.ring with asm := .opened { ring with sequence := 2201, heldMark := none }, ringSeq := 2201 }).withOdo
    { s.odo with accumulator := 48117 * 131072, pendingFix := some fix }).withTracker
    { s.tracker with table := three, alert := true }

/-- §7.11: two records find room, the closes and the summary do not, and the fault record names HEAD_STALL. -/
theorem test_stall_with_full_queue :
    let t := after .headStall stalled
    t.link.events.length = 64 ∧
    (t.link.events.drop 62).map (·.body) =
      [.notice .headStall 48117,
       .fix { status := .cancelled, isTag := true, capture := 0, reference := some (0, 7), offset := some 12,
              beforeAfter := none }] ∧
    t.ctrl.faultRecord = some { cause := .headStall, ringSeq := 2201, chainage := 48117 } ∧
    t.ctrl.run = .fault ∧ flagSet t.causes .eventLoss = true ∧ t.tracker.table = [] := by decide +kernel

/-- The run of §2.13: angle_offset 4, multi_policy DISCARD. -/
def crown : State :=
  let s := opened 100 0
  let r : RingContext :=
    { ring with valid := 310, dropout := 12, outOfWindow := 3, lastAngle := some 16374, slot := some 0,
                profileSlot := none }
  (s.withRing { s.ring with asm := .opened r }).withParams
    { s.params with effect := (s.params.effect.set Param.angleOffset 4).set Param.multiPolicy 1 }

/-- §2.13: two valid samples, two dropouts, the last angle 2. -/
theorem test_run_across_the_crown :
    (((crown.takeSamples 16376 2 0
      [{ range := 9620, intensity := 40, nr := false, sat := false, mult := false },
       { range := 0, intensity := 0, nr := true, sat := false, mult := false },
       { range := 9550, intensity := 130, nr := false, sat := false, mult := true },
       { range := 9580, intensity := 8, nr := false, sat := false, mult := false }]).openRing).map
      fun r => (r.valid, r.dropout, r.outOfWindow, r.lastAngle)) = some (312, 14, 3, some 2) := by decide +kernel

/-- Section 1.1: lock on the third K28.5 in a row and its loss on the fourth invalid symbol in a row, inside a frame. -/
theorem test_link_symbols :
    (after (.requestFrame [.idle, .idle, .data 0, .idle, .idle]) State.reset).link.up = false ∧
    (after (.requestFrame [.idle]) (after (.requestFrame [.idle, .idle]) State.reset)).link.up = true ∧
    (after .recorderLinkUp State.reset).link.up = true ∧
    (let t := after (.requestFrame [.delimiter, .invalid, .invalid, .invalid, .invalid]) (linked 0 0 .free)
     t.link.up = false ∧ t.link.partFrame = none ∧ flagSet t.causes .reqCheck = true) := by decide +kernel

/-- R1: a head frame in two commands, the second with symbols outside any frame. -/
theorem test_head_frame_in_parts :
    let t := after (.headFrameGood ((framed ringStartBytes).drop 3 ++ [.data 9, .idle]))
      (after (.headFrameGood ((framed ringStartBytes).take 3)) locked)
    t.head.lastSeq = some 7 ∧ t.head.partFrame = none ∧ t.causes = 0 := by decide +kernel

/-- R19: the head frame under way at a reset is discarded, so that the loss of symbol lock after it counts no bad frame. -/
theorem test_reset_discards_head_frame :
    let t := after .frameTransmitted (midFrame resetting)
    t.head.partFrame = none ∧
    (after (.headSymbolLockLost [.invalid, .invalid, .invalid, .invalid]) (t.withHead { t.head with goodRun := 2 })).head.goodRun =
      2 ∧
    (after (.headSymbolLockLost [.invalid, .invalid, .invalid, .invalid])
      (midFrame (t.withHead { t.head with goodRun := 2 }))).head.goodRun = 0 := by decide +kernel

/-- R165: one frame in two commands, and the delimiter that ends it begins the next. -/
theorem test_frame_in_parts :
    let t := after (.requestFrame ((getParamSymbols.drop 3) ++ [.delimiter]))
      (after (.requestFrame (.delimiter :: getParamSymbols.take 3)) (linked 0 0 .free))
    t.link.requests = [{ kind := 0x11, tag := 5, payload := [24] }] ∧ t.link.partFrame = some [] := by decide +kernel

/-- R156, R175: the RESET response's transmission is the reset. -/
theorem test_reset_when_transmitted :
    (after .frameTransmitted resetting).ctrl.run = .idle ∧ (after .frameTransmitted resetting).link.partFrame = none ∧
    (after .frameTransmitted resetting).link.responses = [] := by decide +kernel

/-- R87: a pulse between two samples leaves a run in progress. -/
theorem test_pulse_between_samples :
    (after (.inputLevelChange .tagStb .high) (after (.inputLevelChange .tagStb .low) ticking)).filters.tagStb =
      { accepted := some .low, runCount := 3999 } := by decide +kernel

/-- §2.13, sample 0: Y −15 and Z 14420 in sector 255. -/
theorem test_solved_point :
    let x := solve crown ring 16380 { range := 9620, intensity := 40, nr := false, sat := false, mult := false }
    (x.point.y, x.point.z, x.sector) = (-15, 14420, 255) := by decide +kernel

end Sys2Proof.Tests
end

section
/-! SUPPORT. What every meaning does to the accumulator and the values in effect (R21, R93, R96, R149, R152). Most of
the model leaves both alone; a sum put into the accumulator is clamped, a chainage set has four bytes, and a taking puts
admitted values into effect. -/

namespace Sys2Proof.Machine

/-! ### The relation -/

/-- From `s` to `t` an accumulator in range stays in range, and admitted values in effect stay admitted. -/
structure State.KeepsRanges (s t : State) : Prop where
  accumulator : s.AccumulatorInRange → t.AccumulatorInRange
  effect : s.EffectAdmitted → t.EffectAdmitted

theorem State.accumulatorInRange_congr {s t : State} (h : t.odo.accumulator = s.odo.accumulator)
    (hs : s.AccumulatorInRange) : t.AccumulatorInRange := by
  simpa only [State.AccumulatorInRange, h] using hs

theorem State.effectAdmitted_congr {s t : State} (h : t.params.effect = s.params.effect) (hs : s.EffectAdmitted) :
    t.EffectAdmitted := by
  simpa only [State.EffectAdmitted, State.eff, h] using hs

namespace State.KeepsRanges

variable {s t u : State} {w w' : Work}

/-- What touches neither the accumulator nor a value in effect keeps their ranges. -/
theorem of_same (ha : t.odo.accumulator = s.odo.accumulator) (he : t.params.effect = s.params.effect) :
    s.KeepsRanges t :=
  ⟨accumulatorInRange_congr ha, effectAdmitted_congr he⟩

theorem refl (s : State) : s.KeepsRanges s := ⟨id, id⟩

theorem trans (h : s.KeepsRanges t) (k : t.KeepsRanges u) : s.KeepsRanges u :=
  ⟨k.accumulator ∘ h.accumulator, k.effect ∘ h.effect⟩

theorem of_reports (h : s.Reports t) : s.KeepsRanges t := of_same (by rw [h.odo]) (by rw [h.params])

theorem of_drops (h : s.Drops t) : s.KeepsRanges t := of_same (by rw [h.frame]) (by rw [h.frame])

/-! ### A step under way goes on

Each lemma takes a step under way that has kept the ranges one operation further. -/

theorem modify_of {f : State → State} (h : s.KeepsRanges w.st) (hf : w.st.KeepsRanges (f w.st)) :
    s.KeepsRanges (w.modify f).st :=
  h.trans hf

theorem modify {f : State → State} (h : s.KeepsRanges w.st)
    (ha : (f w.st).odo.accumulator = w.st.odo.accumulator) (he : (f w.st).params.effect = w.st.params.effect) :
    s.KeepsRanges (w.modify f).st :=
  h.modify_of (of_same ha he)

theorem ite {c : Prop} [Decidable c] (h : s.KeepsRanges w.st) (h' : s.KeepsRanges w'.st) :
    s.KeepsRanges (if c then w else w').st := by
  split
  · exact h
  · exact h'

theorem foldl {α : Type} {f : Work → α → Work} (hf : ∀ (w : Work) (x : α), w.st.KeepsRanges (f w x).st)
    (xs : List α) (h : s.KeepsRanges w.st) : s.KeepsRanges (xs.foldl f w).st := by
  induction xs generalizing w with
  | nil => exact h
  | cons x xs ih => exact ih (h.trans (hf w x))

theorem queue (h : s.KeepsRanges w.st) (b : EventBody) : s.KeepsRanges (w.queue b).st :=
  h.trans (of_reports (w.queue_reports b))

theorem raise (h : s.KeepsRanges w.st) (c : Cause) : s.KeepsRanges (w.raise c).st :=
  h.trans (of_reports (w.raise_reports c))

theorem raiseIf (h : s.KeepsRanges w.st) (b : Bool) (c : Cause) : s.KeepsRanges (w.raiseIf b c).st :=
  h.trans (of_reports (w.raiseIf_reports b c))

theorem queueMark (h : s.KeepsRanges w.st) (r : RingContext) (x : RingStatus) : s.KeepsRanges (w.queueMark r x).st :=
  h.trans (of_reports (w.queueMark_reports r x))

theorem cancelFix (h : s.KeepsRanges w.st) : s.KeepsRanges w.cancelFix.st :=
  h.trans (of_same (by rw [w.cancelFix_frame.1]) (by rw [w.cancelFix_frame.1]))

theorem closeAll (h : s.KeepsRanges w.st) (why : CloseCause) (c : Int) : s.KeepsRanges (w.closeAll why c).st :=
  h.trans (of_same (by rw [(w.closeAll_frame why c).1]) (by rw [(w.closeAll_frame why c).1]))

theorem respond (h : s.KeepsRanges w.st) (r : Response) : s.KeepsRanges (w.respond r).st := h.modify rfl rfl

theorem refuse (h : s.KeepsRanges w.st) (r : Request) (why : Reason) (i : Option Nat) :
    s.KeepsRanges (w.refuse r why i).st :=
  (h.raise _).respond _

theorem finish (h : s.KeepsRanges w.st) (r : Request) (payload : List Byte) : s.KeepsRanges (w.finish r payload).st :=
  h.respond _

end State.KeepsRanges

/-! ### Takings -/

theorem clamp_bounds {lo hi : Int} (h : lo ≤ hi) (x : Int) : lo ≤ clamp lo hi x ∧ clamp lo hi x ≤ hi := by
  unfold clamp
  split_ifs <;> omega

/-- An adjusted value is admitted wherever the row's default is (R152). -/
theorem ParamRow.admits_adjustOwn {r : ParamRow} (h : r.admits r.default = true) (v : Int) :
    r.admits (adjustOwn r v).1 = true := by
  obtain ⟨cls, default, adj⟩ := r
  cases adj with
  | clampTo lo hi =>
    have hd : lo ≤ default ∧ default ≤ hi := of_decide_eq_true h
    exact decide_eq_true (clamp_bounds (hd.1.trans hd.2) v)
  | reduceMod m =>
    have hd : 0 ≤ default ∧ default < m := of_decide_eq_true h
    exact decide_eq_true ⟨Int.emod_nonneg v (by omega), Int.emod_lt_of_pos v (by omega)⟩
  | codes n =>
    by_cases hv : 0 ≤ v ∧ v < n
    · rw [show adjustOwn ⟨cls, default, .codes n⟩ v = (v, false) from if_pos hv]
      exact decide_eq_true hv
    · rw [show adjustOwn ⟨cls, default, .codes n⟩ v = (default, true) from if_neg hv]
      exact h
  | mask => exact decide_eq_true ⟨Int.emod_nonneg v (by decide), Int.emod_lt_of_pos v (by decide)⟩

/-- Every default of §8.6 lies in its own range. -/
theorem paramRow_admits_default : ∀ p : ParamId, (paramRow p).admits (paramRow p).default = true := by decide

/-- What a taking puts into effect is admitted (R152). -/
theorem paramRow_admits_adjusted (image : Vector Int 46) (p : ParamId) :
    (paramRow p).admits (adjusted image p).1 = true := by
  unfold adjusted
  split
  · exact paramRow_admits_default p
  · exact ParamRow.admits_adjustOwn (paramRow_admits_default p) _

/-- A taking leaves min_range below max_range: the clamped values are, or both take their defaults (R152). -/
theorem adjusted_minRange_lt_maxRange (image : Vector Int 46) :
    (adjusted image Param.minRange).1 < (adjusted image Param.maxRange).1 := by
  unfold adjusted
  by_cases h : pairDefaulted image = true
  · rw [if_pos ⟨.inl rfl, h⟩, if_pos ⟨.inr rfl, h⟩]
    decide
  · rw [if_neg fun k => h k.2, if_neg fun k => h k.2]
    simpa [pairDefaulted] using h

/-- Values in effect that are each admitted already or taken, with the pair in order, are good ones. -/
theorem State.effectAdmitted_of_taken {s : State} (image : Vector Int 46)
    (h : ∀ q : ParamId, (paramRow q).admits s.params.effect[q] = true ∨ s.params.effect[q] = (adjusted image q).1)
    (hp : s.eff Param.minRange < s.eff Param.maxRange) : s.EffectAdmitted := by
  refine ⟨fun q => ?_, hp⟩
  rcases h q with hq | hq
  · exact hq
  · rw [hq]
    exact paramRow_admits_adjusted image q

/-- min_range and max_range are RUN parameters, so a LIVE taking leaves the pair alone. -/
theorem State.effectAdmitted_of_liveFrom {s t : State} (h : s.params.LiveFrom t.params) (hs : s.EffectAdmitted) :
    t.EffectAdmitted := by
  have kept : ∀ q : ParamId, (paramRow q).cls ≠ .live → t.eff q = s.eff q := fun q hq =>
    (h.effect q).resolve_right fun k => hq k.1
  refine State.effectAdmitted_of_taken s.params.image (fun q => ?_) ?_
  · rcases h.effect q with hq | ⟨-, hq⟩
    · exact .inl (by rw [hq]; exact hs.1 q)
    · exact .inr hq
  · rw [kept Param.minRange (by decide), kept Param.maxRange (by decide)]
    exact hs.2

theorem State.reset_effectAdmitted : State.reset.EffectAdmitted := by
  refine ⟨fun p => ?_, by decide⟩
  simpa [State.reset, defaultParams] using paramRow_admits_default p

/-- The one taking of all classes at a RESET (R154). -/
theorem State.afterReset_effectAdmitted (s : State) : s.afterReset.EffectAdmitted := by
  obtain ⟨-, -, he, -⟩ := ParamStore.foldl_takeOne (idsOf ParamClass.any)
    { s.params with adjustedIds := [], further := 0, liveWaiting := false }
  have taken : ∀ q : ParamId, s.afterReset.params.effect[q] = (adjusted s.params.image q).1 := fun q =>
    (he q).trans (if_pos ((mem_idsOf _ q).2 rfl))
  refine State.effectAdmitted_of_taken s.params.image (fun q => .inr (taken q)) ?_
  rw [State.eff, State.eff, taken, taken]
  exact adjusted_minRange_lt_maxRange _

/-! ### The accumulator -/

theorem State.reset_accumulatorInRange : State.reset.AccumulatorInRange := ⟨by decide, by decide⟩

/-- Four bytes spell a chainage of 32 bits. -/
theorem readSigned_four_bounds (b0 b1 b2 b3 : Byte) :
    -2147483648 ≤ readSigned [b0, b1, b2, b3] ∧ readSigned [b0, b1, b2, b3] ≤ 2147483647 := by
  have h0 := b0.isLt
  have h1 := b1.isLt
  have h2 := b2.isLt
  have h3 := b3.isLt
  simp only [readSigned, readLe, List.length_cons, List.length_nil]
  split_ifs <;> omega

/-- A chainage of 32 bits fits the accumulator (R93, R96). -/
theorem State.setTo_keepsRanges (s : State) {v : Int} (h : -2147483648 ≤ v ∧ v ≤ 2147483647) :
    s.KeepsRanges (s.withOdo (s.odo.setTo v)) := by
  refine ⟨fun _ => ?_, id⟩
  simp only [State.AccumulatorInRange, State.withOdo_odo, Odometer.setTo, Config.unitsPerMm, Config.accumulatorMin,
    Config.accumulatorMax]
  omega

/-- What START does once the RUN class is taken: of the two, the accumulator alone changes (R132). -/
theorem State.begin_keepsRanges (s : State) {v : Int} (h : -2147483648 ≤ v ∧ v ≤ 2147483647) :
    s.KeepsRanges (((s.startRing.startSectors).startTravel v).startRun v) :=
  (s.setTo_keepsRanges h).trans (.of_same rfl rfl)

theorem State.withFilters_keepsRanges (s : State) (x : Filters) : s.KeepsRanges (s.withFilters x) := .of_same rfl rfl

/-- A reset sets the accumulator to 0 and takes every value anew (R104, R154). -/
theorem State.afterReset_keepsRanges (s : State) : s.KeepsRanges s.afterReset :=
  ⟨fun _ => accumulatorInRange_congr rfl reset_accumulatorInRange, fun _ => s.afterReset_effectAdmitted⟩

namespace State.KeepsRanges

variable {s : State} {w : Work}

theorem takeLive (h : s.KeepsRanges w.st) : s.KeepsRanges w.takeLive.st :=
  h.trans ⟨accumulatorInRange_congr (by rw [w.takeLive_takes.odo]), effectAdmitted_of_liveFrom w.takeLive_liveFrom⟩

theorem takeLiveIfWaiting (h : s.KeepsRanges w.st) : s.KeepsRanges w.takeLiveIfWaiting.st :=
  h.trans ⟨accumulatorInRange_congr (by rw [w.takeLiveIfWaiting_takes.odo]),
    effectAdmitted_of_liveFrom w.takeLiveIfWaiting_liveFrom⟩

/-- The RUN taking takes the pair whole (R150, R152). -/
theorem takeOfRun (h : s.KeepsRanges w.st) : s.KeepsRanges (w.take ParamClass.isRun true).st := by
  obtain ⟨-, he, -⟩ := w.take_params ParamClass.isRun true
  refine h.trans ⟨accumulatorInRange_congr (by rw [(w.take_takes _ _).odo]), fun hs => ?_⟩
  refine effectAdmitted_of_taken w.st.params.image (fun q => ?_) ?_
  · rw [he q]
    split
    · exact .inr rfl
    · exact .inl (hs.1 q)
  · rw [State.eff, State.eff, he, he, if_pos (by decide), if_pos (by decide)]
    exact adjusted_minRange_lt_maxRange _

theorem takeRun (h : s.KeepsRanges w.st) : s.KeepsRanges w.takeRun.st := by
  unfold Work.takeRun
  exact h.takeOfRun.modify_of (State.withFilters_keepsRanges _ _)

/-- A sum put into the accumulator is clamped (R93). -/
theorem setAccumulator (h : s.KeepsRanges w.st) (sum : Int) : s.KeepsRanges (w.setAccumulator sum).st := by
  refine .raiseIf (.modify_of h ⟨fun _ => ?_, id⟩) _ _
  exact clamp_bounds (by decide) sum

theorem odometerUpdate (h : s.KeepsRanges w.st) : s.KeepsRanges w.odometerUpdate.st :=
  .setAccumulator (.raiseIf (h.modify rfl rfl) _ _) _

/-! ### Fixes and run control -/

theorem placeFix (h : s.KeepsRanges w.st) (f : Fix) : s.KeepsRanges (w.placeFix f).st := by
  unfold Work.placeFix
  dsimp only
  split
  · exact .queue (h.modify rfl rfl) _
  · exact h.modify rfl rfl

theorem takeStrobe (h : s.KeepsRanges w.st) : s.KeepsRanges w.takeStrobe.st := by
  unfold Work.takeStrobe
  dsimp only
  split
  · exact (h.queue _).raise _
  · split
    · exact h.queue _
    · exact h.placeFix _

theorem leaveRunning (h : s.KeepsRanges w.st) : s.KeepsRanges w.leaveRunning.st := by
  have l := w.leaveRunning_leaves
  exact h.trans ⟨accumulatorInRange_congr (by rw [l.frame]), effectAdmitted_of_liveFrom l.params⟩

theorem settle (h : s.KeepsRanges w.st) : s.KeepsRanges w.settle.st := by
  rcases w.settle_cases with ⟨same, -⟩ | ⟨c, -, -, f⟩
  · rw [same]
    exact h
  · exact h.trans ⟨accumulatorInRange_congr (by rw [f.odo]), effectAdmitted_of_liveFrom f.params⟩

/-- An accepted START: the RUN taking, then the start chainage (R96, R132). -/
theorem startAt {v : Int} (h : s.KeepsRanges w.st) (hv : -2147483648 ≤ v ∧ v ≤ 2147483647) :
    s.KeepsRanges (w.startAt v).st :=
  h.takeRun.modify_of (State.begin_keepsRanges _ hv)

theorem pauseRun (h : s.KeepsRanges w.st) : s.KeepsRanges w.pauseRun.st := h.leaveRunning.modify rfl rfl

theorem stopRun (h : s.KeepsRanges w.st) : s.KeepsRanges w.stopRun.st :=
  .modify (.queue (.closeAll (.cancelFix (.ite h.leaveRunning h)) _ _) _) rfl rfl

theorem gapClose (h : s.KeepsRanges w.st) : s.KeepsRanges w.gapClose.st := by
  unfold Work.gapClose
  split
  · exact .ite (h.closeAll _ _) h
  · exact h

theorem fixTo {v : Int} (h : s.KeepsRanges w.st) (hv : -2147483648 ≤ v ∧ v ≤ 2147483647) :
    s.KeepsRanges (w.fixTo v).st :=
  .ite (h.modify_of (State.setTo_keepsRanges _ hv)) (h.placeFix _)

theorem afterLiveWrite (h : s.KeepsRanges w.st) : s.KeepsRanges w.afterLiveWrite.st :=
  .ite (h.modify rfl rfl) h.takeLive

end State.KeepsRanges

/-! ### Rings -/

theorem State.makeReady_keepsRanges (s : State) (r : RingContext) (x : Summary) : s.KeepsRanges (s.makeReady r x) := by
  unfold State.makeReady
  split
  · split
    · exact .of_same rfl rfl
    · exact .refl _
  · exact .refl _

theorem State.takeSample_keepsRanges (s : State) (raw : Nat) (x : Sample) : s.KeepsRanges (s.takeSample raw x) := by
  unfold State.takeSample State.deliver
  split
  · dsimp only
    split
    · split <;> exact .of_same rfl rfl
    · exact .of_same rfl rfl
  · exact .refl _

theorem State.takeSamples_keepsRanges (xs : List Sample) (s : State) (a0 step j : Nat) :
    s.KeepsRanges (s.takeSamples a0 step j xs) := by
  induction xs generalizing s j with
  | nil => exact .refl _
  | cons x xs ih => exact (s.takeSample_keepsRanges _ x).trans (ih _ _)

theorem State.addMissing_keepsRanges (s : State) (gap : Nat) : s.KeepsRanges (s.addMissing gap) := by
  unfold State.addMissing
  split
  · exact .of_same rfl rfl
  · exact .refl _

namespace State.KeepsRanges

variable {s : State} {w : Work}

theorem applyFix (h : s.KeepsRanges w.st) : s.KeepsRanges w.applyFix.st := by
  unfold Work.applyFix
  split
  · exact h
  · exact .queue (.modify (.setAccumulator (h.modify rfl rfl) _) rfl rfl) _

theorem selectSegment (h : s.KeepsRanges w.st) : s.KeepsRanges w.selectSegment.st := .raiseIf (h.modify rfl rfl) _ _

theorem claimProfile (h : s.KeepsRanges w.st) (n d : Nat) : s.KeepsRanges (w.claimProfile n d).1.st := by
  unfold Work.claimProfile
  split
  · split
    · exact h.modify rfl rfl
    · exact .raise (h.modify rfl rfl) _
  · exact h

theorem openingSteps (h : s.KeepsRanges w.st) : s.KeepsRanges w.openingSteps.1.st :=
  .claimProfile (.selectSegment (.raiseIf (.applyFix (.takeLiveIfWaiting (h.modify rfl rfl))) _ _)) _ _

theorem openRing (h : s.KeepsRanges w.st) : s.KeepsRanges w.openRing.st := h.openingSteps.modify rfl rfl

theorem evaluate (h : s.KeepsRanges w.st) (r : RingContext) : s.KeepsRanges (w.evaluate r).st :=
  .foldl (fun w e => of_reports (w.emit_reports e)) _ (h.modify rfl rfl)

theorem closeAccepted (h : s.KeepsRanges w.st) (r : RingContext) : s.KeepsRanges (w.closeAccepted r).st :=
  .modify (.queueMark (.modify_of (h.evaluate r) (State.makeReady_keepsRanges _ _ _)) _ _) rfl rfl

theorem closeDiscarded (h : s.KeepsRanges w.st) (r : RingContext) (tooLong : Bool) :
    s.KeepsRanges (w.closeDiscarded r tooLong).st := by
  have dropped : s.KeepsRanges (w.modify fun s => s.dropProfile r).st :=
    h.modify_of (of_drops (State.dropProfile_drops _ r))
  exact .raiseIf (.modify (.raise (.queueMark dropped _ _) _) rfl rfl) _ _

theorem closeRing (h : s.KeepsRanges w.st) (r : RingContext) : s.KeepsRanges (w.closeRing r).st := by
  unfold Work.closeRing
  refine .modify ?_ rfl rfl
  split
  · exact h.closeAccepted r
  · exact h.closeDiscarded r false
  · exact h.closeDiscarded r true
  · exact h

theorem ringStart (h : s.KeepsRanges w.st) : s.KeepsRanges w.ringStart.st := by
  unfold Work.ringStart
  split
  · exact h
  · exact h.openRing
  · exact .ite (h.closeRing _).settle.openRing (h.closeRing _).settle

/-! ### The head link -/

theorem checkGap (h : s.KeepsRanges w.st) (seq : Byte) : s.KeepsRanges (w.checkGap seq).st :=
  .raiseIf (.modify_of (h.modify rfl rfl) (State.addMissing_keepsRanges _ _)) _ _

theorem headNote (h : s.KeepsRanges w.st) (bytes : List Byte) : s.KeepsRanges (w.headNote bytes).st :=
  .ite (h.queue _) h

theorem handOver (h : s.KeepsRanges w.st) (f : HeadFrame) : s.KeepsRanges (w.handOver f).st := by
  cases f with
  | sampleRun a0 step samples => exact h.modify_of (State.takeSamples_keepsRanges _ _ _ _ _)
  | ringStart _ => exact h.ringStart
  | headStatus bytes => exact h.headNote bytes

theorem goodFrame (h : s.KeepsRanges w.st) (seq : Byte) (f : HeadFrame) : s.KeepsRanges (w.goodFrame seq f).st := by
  unfold Work.goodFrame
  split
  · exact h.modify rfl rfl
  · exact (h.checkGap seq).settle.handOver f

theorem countBad (h : s.KeepsRanges w.st) : s.KeepsRanges w.countBad.st :=
  .ite (h.modify rfl rfl) (.raise (h.modify rfl rfl) _)

theorem badFrame (h : s.KeepsRanges w.st) : s.KeepsRanges w.badFrame.st := by
  unfold Work.badFrame
  split
  · exact h.modify rfl rfl
  · exact (h.raise _).settle.countBad

theorem setHeadPart (h : s.KeepsRanges w.st) (f : Option (List Byte)) : s.KeepsRanges (w.setHeadPart f).st :=
  h.modify rfl rfl

theorem judgeHead (h : s.KeepsRanges w.st) (frame : List Byte) : s.KeepsRanges (w.judgeHead frame).st := by
  unfold Work.judgeHead
  refine .settle ?_
  split
  · exact h.goodFrame _ _
  · exact h.badFrame

theorem headSymbol (h : s.KeepsRanges w.st) (x : Symbol) : s.KeepsRanges (w.headSymbol x).st := by
  unfold Work.headSymbol
  split
  · exact h.setHeadPart _
  · exact h
  · exact .ite ((h.setHeadPart none).judgeHead _) (h.setHeadPart _)
  · exact (h.setHeadPart _).badFrame.settle
  · exact (h.setHeadPart _).badFrame.settle
  · exact h

theorem receiveHead (h : s.KeepsRanges w.st) (x : Symbol) : s.KeepsRanges (w.receiveHead x).st :=
  .ite (.headSymbol (h.modify rfl rfl) x) (h.modify rfl rfl)

/-! ### The recorder link -/

theorem takeIn (h : s.KeepsRanges w.st) (r : Request) : s.KeepsRanges (w.takeIn r).st :=
  .ite (h.modify rfl rfl) (.ite h (.ite ((h.respond _).raise _) (h.raise _)))

theorem judgeFrame (h : s.KeepsRanges w.st) (xs : List Symbol) : s.KeepsRanges (w.judgeFrame xs).st := by
  unfold Work.judgeFrame
  refine .settle ?_
  split
  · exact h.takeIn _
  · exact h.raise _

theorem setPartFrame (h : s.KeepsRanges w.st) (f : Option (List Symbol)) : s.KeepsRanges (w.setPartFrame f).st :=
  h.modify rfl rfl

theorem receiveUp (h : s.KeepsRanges w.st) (x : Symbol) : s.KeepsRanges (w.receiveUp x).st := by
  unfold Work.receiveUp
  split
  · exact h.setPartFrame _
  · exact h
  · exact (h.setPartFrame _).judgeFrame _
  · exact (h.setPartFrame _).judgeFrame _
  · exact h.setPartFrame _

theorem goDown (h : s.KeepsRanges w.st) (sync : SymbolLock) : s.KeepsRanges (w.goDown sync).st :=
  .settle (.raiseIf (h.modify rfl rfl) _ _)

theorem receive (h : s.KeepsRanges w.st) (x : Symbol) : s.KeepsRanges (w.receive x).st :=
  .ite (h.goDown _) (.ite (.receiveUp (h.modify rfl rfl) x) (h.modify rfl rfl))

end State.KeepsRanges

theorem State.choose_keepsRanges (s : State) : s.KeepsRanges s.choose := by
  unfold State.choose
  split
  · exact .of_same rfl rfl
  · exact .refl _

theorem State.segmentSent_keepsRanges (s : State) (k : Fin 3) : s.KeepsRanges (s.segmentSent k) := by
  unfold State.segmentSent
  split
  · split <;> exact .of_same rfl rfl
  · exact .refl _

theorem State.transmitted_keepsRanges (s : State) : s.KeepsRanges s.transmitted := by
  unfold State.transmitted
  split
  · exact .refl _
  · dsimp only
    split
    · exact .of_same rfl rfl
    · exact .of_same rfl rfl
    · have freed : s.KeepsRanges (s.withLink { s.link with tx := none }) := .of_same rfl rfl
      exact freed.trans (State.segmentSent_keepsRanges _ _)

/-! ### Requests -/

namespace State.KeepsRanges

variable {s : State} {w : Work} (r : Request)

theorem unknownKind (h : s.KeepsRanges w.st) : s.KeepsRanges (unknownKind r w).st := h.refuse _ _ _

theorem identify (h : s.KeepsRanges w.st) : s.KeepsRanges (identify r w).st := .ite (h.finish _ _) (h.refuse _ _ _)

theorem readStatus (h : s.KeepsRanges w.st) : s.KeepsRanges (readStatus r w).st := .ite (h.finish _ _) (h.refuse _ _ _)

theorem clearCauses (h : s.KeepsRanges w.st) : s.KeepsRanges (clearCauses r w).st :=
  .ite (.finish (h.modify rfl rfl) _ _) (h.refuse _ _ _)

theorem readIntrusions (h : s.KeepsRanges w.st) : s.KeepsRanges (readIntrusions r w).st :=
  .ite (h.finish _ _) (h.refuse _ _ _)

theorem headPass (h : s.KeepsRanges w.st) : s.KeepsRanges (headPass r w).st := .ite (h.modify rfl rfl) (h.refuse _ _ _)

theorem reset (h : s.KeepsRanges w.st) : s.KeepsRanges (Machine.reset r w).st :=
  .ite (.modify (h.finish _ _) rfl rfl) (h.refuse _ _ _)

theorem start (h : s.KeepsRanges w.st) : s.KeepsRanges (start r w).st := by
  unfold Machine.start
  split
  · refine .ite (h.refuse _ _ _) (.ite (h.refuse _ _ _) ?_)
    split
    · exact h.refuse _ _ _
    · exact (h.startAt (readSigned_four_bounds _ _ _ _)).finish _ _
  · exact h.refuse _ _ _

theorem pause (h : s.KeepsRanges w.st) : s.KeepsRanges (pause r w).st :=
  .ite (.ite (h.pauseRun.finish _ _) (h.refuse _ _ _)) (h.refuse _ _ _)

theorem resume (h : s.KeepsRanges w.st) : s.KeepsRanges (resume r w).st :=
  .ite (.ite (.ite (.finish (h.gapClose.modify rfl rfl) _ _) (h.refuse _ _ _)) (h.refuse _ _ _)) (h.refuse _ _ _)

theorem stop (h : s.KeepsRanges w.st) : s.KeepsRanges (stop r w).st :=
  .ite (.ite (h.stopRun.finish _ _) (h.refuse _ _ _)) (h.refuse _ _ _)

theorem clearFault (h : s.KeepsRanges w.st) : s.KeepsRanges (clearFault r w).st :=
  .ite (.ite (.finish (h.modify rfl rfl) _ _) (h.refuse _ _ _)) (h.refuse _ _ _)

theorem fixChainage (h : s.KeepsRanges w.st) : s.KeepsRanges (fixChainage r w).st := by
  unfold Machine.fixChainage
  split
  · exact .ite (h.refuse _ _ _) ((h.fixTo (readSigned_four_bounds _ _ _ _)).finish _ _)
  · exact h.refuse _ _ _

theorem setParam (h : s.KeepsRanges w.st) : s.KeepsRanges (setParam r w).st := by
  unfold Machine.setParam
  split
  · split
    · exact .finish (.ite (.afterLiveWrite (h.modify rfl rfl)) (h.modify rfl rfl)) _ _
    · exact h.refuse _ _ _
  · exact h.refuse _ _ _

theorem getParam (h : s.KeepsRanges w.st) : s.KeepsRanges (getParam r w).st := by
  unfold Machine.getParam
  split
  · split
    · exact h.finish _ _
    · exact h.refuse _ _ _
  · exact h.refuse _ _ _

theorem loadEnvelope (h : s.KeepsRanges w.st) : s.KeepsRanges (loadEnvelope r w).st := by
  unfold Machine.loadEnvelope
  split
  · refine .ite ?_ (h.refuse _ _ _)
    split
    · exact .ite (h.refuse _ _ _) (.finish (h.modify rfl rfl) _ _)
    · exact h.refuse _ _ _
  · exact h.refuse _ _ _

theorem commitEnvelope (h : s.KeepsRanges w.st) : s.KeepsRanges (commitEnvelope r w).st := by
  unfold Machine.commitEnvelope
  split
  · split
    · exact .finish (h.modify rfl rfl) _ _
    · exact h.refuse _ _ _
  · exact h.refuse _ _ _

theorem readEnvelope (h : s.KeepsRanges w.st) : s.KeepsRanges (readEnvelope r w).st := by
  unfold Machine.readEnvelope
  split
  · split
    · exact .ite (h.finish _ _) (h.refuse _ _ _)
    · exact h.refuse _ _ _
  · exact h.refuse _ _ _

theorem loadRoute (h : s.KeepsRanges w.st) : s.KeepsRanges (loadRoute r w).st := by
  unfold Machine.loadRoute
  split
  · refine .ite (.ite (.ite ?_ (h.refuse _ _ _)) (h.refuse _ _ _)) (h.refuse _ _ _)
    split
    · exact h.refuse _ _ _
    · exact .finish (h.modify rfl rfl) _ _
  · exact h.refuse _ _ _

theorem trimRoute (h : s.KeepsRanges w.st) : s.KeepsRanges (trimRoute r w).st := by
  unfold Machine.trimRoute
  split
  · exact .ite (.ite (.finish (h.modify rfl rfl) _ _) (h.refuse _ _ _)) (h.refuse _ _ _)
  · exact h.refuse _ _ _

theorem readRoute (h : s.KeepsRanges w.st) : s.KeepsRanges (readRoute r w).st := by
  unfold Machine.readRoute
  split
  · exact .ite (h.finish _ _) (h.refuse _ _ _)
  · exact h.refuse _ _ _

end State.KeepsRanges

/-! ### Commands -/

/-- The next state a command answers, if it answers one, keeps the ranges of `s`. -/
def State.AnswersInRange (s : State) (x : Result) : Prop := ∀ t, x = .next t → s.KeepsRanges t

namespace State.AnswersInRange

variable {s t : State} {w : Work}

theorem next (h : s.KeepsRanges t) : s.AnswersInRange (.next t) := by
  rintro _ ⟨⟩
  exact h

theorem done (h : s.KeepsRanges w.st) : s.AnswersInRange w.done := next h.settle

theorem ite {c : Prop} [Decidable c] {x y : Result} (hx : s.AnswersInRange x) (hy : s.AnswersInRange y) :
    s.AnswersInRange (if c then x else y) := by
  split
  · exact hx
  · exact hy

/-- A request row keeps the ranges if its performing does (R167). -/
theorem perform {body : Request → Work → Work}
    (h : ∀ (r : Request) (w : Work), s.KeepsRanges w.st → s.KeepsRanges (body r w).st)
    (serves : Option RequestKind → Bool) : s.AnswersInRange (perform serves body s) := by
  unfold Machine.perform
  split
  · exact done (h _ _ (.of_same rfl rfl))
  · exact next (.refl s)

theorem headSymbols (xs : List Symbol) : s.AnswersInRange (xs.foldl Work.receiveHead (Work.of s)).done :=
  done (.foldl (fun _ x => (KeepsRanges.refl _).receiveHead x) xs (.refl s))

theorem upstreamSymbols (xs : List Symbol) : s.AnswersInRange (xs.foldl Work.receive (Work.of s)).done :=
  done (.foldl (fun _ x => (KeepsRanges.refl _).receive x) xs (.refl s))

end State.AnswersInRange

theorem State.acceptLevel_keepsRanges (s : State) (i : InputPin) (v : Level) : s.KeepsRanges (s.acceptLevel i v) := by
  unfold State.acceptLevel
  split
  · exact .refl s
  · exact .of_same rfl rfl

theorem execHeadStall_answersInRange (s : State) : s.AnswersInRange (execHeadStall s) :=
  .ite (.done (.raise (.modify (.refl s) rfl rfl) _)) (.next (.refl s))

theorem execWheelDecode_answersInRange (s : State) (w : Wheel) (a b : Level) :
    s.AnswersInRange (execWheelDecode w a b s) := by
  have accepted := (s.acceptLevel_keepsRanges (wheelPinA w) a).trans (State.acceptLevel_keepsRanges _ (wheelPinB w) b)
  refine .done (.raiseIf (.modify_of accepted (.of_same ?_ rfl)) _ _)
  cases w <;> rfl

theorem execTagStrobe_answersInRange (s : State) : s.AnswersInRange (execTagStrobe s) := by
  have accepted : s.KeepsRanges (Work.of (s.acceptLevel .tagStb .high)).st := s.acceptLevel_keepsRanges _ _
  exact .ite (.done accepted.takeStrobe) (.done accepted)

theorem State.pressMark_keepsRanges (s : State) : s.KeepsRanges s.pressMark := by
  unfold State.pressMark
  split
  · split
    · exact .of_same rfl rfl
    · exact .refl s
  · exact .refl s

theorem execHeadPassDone_answersInRange (s : State) : s.AnswersInRange (execHeadPassDone s) := by
  unfold execHeadPassDone
  split
  · exact .done (.respond (.modify (.refl s) rfl rfl) _)
  · exact .next (.refl s)

/-- A power-on reset gives every value its default (R145, R154). -/
theorem execPowerOnReset_answersInRange (s : State) : s.AnswersInRange (execPowerOnReset s) :=
  .next ⟨fun _ => State.accumulatorInRange_congr rfl State.reset_accumulatorInRange,
    fun _ => State.effectAdmitted_congr rfl State.reset_effectAdmitted⟩

/-- No command takes a value out of its range. -/
theorem exec_answersInRange (c : Instr) (s : State) : s.AnswersInRange (exec c s) := by
  cases c with
  | headFrameGood xs => exact .headSymbols xs
  | headFrameBad xs => exact .headSymbols xs
  | headStall => exact execHeadStall_answersInRange s
  | odometerUpdate => exact .done (State.KeepsRanges.refl s).odometerUpdate
  | wheelDecode w a b => exact execWheelDecode_answersInRange s w a b
  | tagStrobe => exact execTagStrobe_answersInRange s
  | markPress => exact .next ((s.acceptLevel_keepsRanges _ _).trans (State.pressMark_keepsRanges _))
  | requestFrame xs => exact .upstreamSymbols xs
  | unknownKind => exact .perform (fun r _ => .unknownKind r) _
  | identify => exact .perform (fun r _ => .identify r) _
  | readStatus => exact .perform (fun r _ => .readStatus r) _
  | clearCauses => exact .perform (fun r _ => .clearCauses r) _
  | setParam => exact .perform (fun r _ => .setParam r) _
  | getParam => exact .perform (fun r _ => .getParam r) _
  | loadEnvelope => exact .perform (fun r _ => .loadEnvelope r) _
  | commitEnvelope => exact .perform (fun r _ => .commitEnvelope r) _
  | readEnvelope => exact .perform (fun r _ => .readEnvelope r) _
  | loadRoute => exact .perform (fun r _ => .loadRoute r) _
  | trimRoute => exact .perform (fun r _ => .trimRoute r) _
  | readRoute => exact .perform (fun r _ => .readRoute r) _
  | start => exact .perform (fun r _ => .start r) _
  | pause => exact .perform (fun r _ => .pause r) _
  | resume => exact .perform (fun r _ => .resume r) _
  | stop => exact .perform (fun r _ => .stop r) _
  | clearFault => exact .perform (fun r _ => .clearFault r) _
  | fixChainage => exact .perform (fun r _ => .fixChainage r) _
  | readIntrusions => exact .perform (fun r _ => .readIntrusions r) _
  | headPass => exact .perform (fun r _ => .headPass r) _
  | headPassDone => exact execHeadPassDone_answersInRange s
  | reset => exact .perform (fun r _ => .reset r) _
  | resetTakesEffect => exact .ite (.next s.afterReset_keepsRanges) (.next (.refl s))
  | powerOnReset => exact execPowerOnReset_answersInRange s
  | arbiterChoose => exact .next s.choose_keepsRanges
  | frameTransmitted => exact .ite (.next s.afterReset_keepsRanges) (.next s.transmitted_keepsRanges)
  | recorderLinkUp => exact .ite (.next (.refl s)) (.upstreamSymbols _)
  | recorderLinkDown xs => exact .ite (.upstreamSymbols xs) (.next (.refl s))
  | headSymbolLock => exact .ite (.next (.refl s)) (.headSymbols _)
  | headSymbolLockLost xs => exact .ite (.headSymbols xs) (.next (.refl s))
  | inputLevelChange pin level => exact .next (.of_same rfl rfl)
  | filteredFallingEdge input => exact .next (s.acceptLevel_keepsRanges _ _)

/-! ### A tick -/

namespace State.KeepsRanges

variable {s t : State}

theorem after (h : s.KeepsRanges t) (c : Instr) : s.KeepsRanges (t.after c) := by
  unfold State.after
  split
  · next u hu => exact h.trans (exec_answersInRange c t u hu)
  · exact h
  · exact h

theorem afterIf (h : s.KeepsRanges t) (b : Bool) (c : Instr) : s.KeepsRanges (t.afterIf b c) := by
  unfold State.afterIf
  split
  · exact h.after c
  · exact h

theorem sampleInput (h : s.KeepsRanges t) (i : InputPin) : s.KeepsRanges (t.sampleInput i) := h.trans (of_same rfl rfl)

theorem tickWheel (h : s.KeepsRanges t) (w : Wheel) : s.KeepsRanges (t.tickWheel w) := h.afterIf _ _

theorem tickEdge (h : s.KeepsRanges t) (e : EdgeInput) (rise : Instr) : s.KeepsRanges (t.tickEdge e rise) :=
  h.afterIf _ _

theorem tickInputs (h : s.KeepsRanges t) : s.KeepsRanges t.tickInputs := by
  have sampled := (((((h.sampleInput .whlA).sampleInput .whlB).sampleInput .whrA).sampleInput .whrB).sampleInput
    .tagStb).sampleInput .markKey
  exact (((sampled.tickWheel _).tickWheel _).tickEdge _ _).tickEdge _ _

theorem tickClock (h : s.KeepsRanges t) : s.KeepsRanges t.tickClock := by
  unfold State.tickClock
  refine .afterIf (h.trans (of_same ?_ ?_)) _ _
  all_goals rfl

theorem tickStall (h : s.KeepsRanges t) : s.KeepsRanges t.tickStall := h.afterIf _ _

theorem tickHeadPass (h : s.KeepsRanges t) : s.KeepsRanges t.tickHeadPass := by
  unfold State.tickHeadPass
  split
  · refine .afterIf (h.trans (of_same ?_ ?_)) _ _
    all_goals rfl
  · exact h

theorem tickTransmit (h : s.KeepsRanges t) : s.KeepsRanges t.tickTransmit := by
  unfold State.tickTransmit
  split
  · next x _ =>
    have sent : s.KeepsRanges (t.withLink { t.link with
        tx := some { x with sent := x.sent + Config.symbolsPerMicrosecond } }) := h.trans (of_same rfl rfl)
    dsimp only
    split
    · exact sent.after _
    · exact sent
  · exact h

theorem tickAgent (h : s.KeepsRanges t) : s.KeepsRanges t.tickAgent := by
  unfold State.tickAgent
  split
  · exact h.after _
  · exact h

theorem tick (h : s.KeepsRanges t) : s.KeepsRanges t.tick :=
  h.tickClock.tickInputs.tickStall.tickHeadPass.tickTransmit.tickAgent.after _

end State.KeepsRanges

/-- A step keeps the ranges, whether it takes a command or is one microsecond. -/
theorem step_keepsRanges {s t : State} (h : step s = .next t) : s.KeepsRanges t := by
  unfold step at h
  split at h
  · rw [← Host.Outcome.next.inj h]
    exact (State.KeepsRanges.refl s).tick
  · next c rest _ =>
    have popped : s.KeepsRanges (s.withPending rest) := .of_same rfl rfl
    exact popped.trans (exec_answersInRange c _ t h)

/-- Settles O10: every meaning keeps the accumulator and the values in effect in range, and a step is one meaning or the
meanings of one microsecond. -/
theorem valuesInRangeKept : Obligations.ValuesInRangeKept :=
  ⟨fun _ _ hs h => (step_keepsRanges h).accumulator hs, fun _ _ hs h => (step_keepsRanges h).effect hs⟩

end Sys2Proof.Machine
end

section
/-! SUPPORT. The sine table (R29, R30): its symmetries, and that no entry exceeds 32767 in size. The model computes an
entry by the first thirteen terms of the sine series, rounded down in units of 2^−64; they are compared with the series
of `Real.sin`, which lies in −1..1. -/

namespace Sys2Proof.Machine

open Finset

/-! ### The series of the sine -/

/-- The size of the sine series' term `n` at `r`. -/
noncomputable def exactTerm (r : ℝ) (n : ℕ) : ℝ := r ^ (2 * n + 1) / (2 * n + 1).factorial

theorem exactTerm_zero (r : ℝ) : exactTerm r 0 = r := by simp [exactTerm]

theorem exactTerm_nonneg {r : ℝ} (h : 0 ≤ r) (n : ℕ) : 0 ≤ exactTerm r n := by
  unfold exactTerm
  positivity

theorem exactTerm_succ (r : ℝ) (n : ℕ) :
    exactTerm r (n + 1) = exactTerm r n * r * r / ((2 * (n + 1) * (2 * (n + 1) + 1) : ℕ) : ℝ) := by
  unfold exactTerm
  rw [show 2 * (n + 1) + 1 = 2 * n + 1 + 1 + 1 by ring, Nat.factorial_succ, Nat.factorial_succ]
  push_cast
  field_simp
  ring

theorem exactTerm_antitone {r : ℝ} (h0 : 0 ≤ r) (h2 : r ≤ 2) : Antitone (exactTerm r) := by
  refine antitone_nat_of_succ_le fun n => ?_
  have hd : (4 : ℝ) ≤ ((2 * (n + 1) * (2 * (n + 1) + 1) : ℕ) : ℝ) := by
    exact_mod_cast show 4 ≤ 2 * (n + 1) * (2 * (n + 1) + 1) by nlinarith
  have hr : r * r ≤ 4 := by nlinarith
  rw [exactTerm_succ, div_le_iff₀ (by linarith), mul_assoc]
  exact mul_le_mul_of_nonneg_left (hr.trans hd) (exactTerm_nonneg h0 n)

theorem summable_exactTerm (r : ℝ) : Summable (exactTerm r) := (Real.hasSum_sinh r).summable

/-- A partial sum of the series differs from the sine by no more than the first term left out. -/
theorem abs_sin_sub_sum_le {r : ℝ} (h0 : 0 ≤ r) (h2 : r ≤ 2) (n : ℕ) :
    |Real.sin r - ∑ i ∈ range n, (-1) ^ i * exactTerm r i| ≤ exactTerm r n := by
  have hs : Real.sin r = ∑' i, (-1) ^ i * exactTerm r i := by
    rw [← (Real.hasSum_sin r).tsum_eq]
    exact tsum_congr fun i => mul_div_assoc _ _ _
  rw [hs]
  exact alternating_series_error_bound _ (exactTerm_antitone h0 h2) (summable_exactTerm r) n

/-! ### The series of the model -/

/-- The terms `sineSeries` goes through, the first of them `x`. -/
def sineTerm (x : Nat) : Nat → Nat
  | 0 => x
  | i + 1 => sineTerm x i * x / 2 ^ 64 * x / 2 ^ 64 / (2 * (i + 1) * (2 * (i + 1) + 1))

theorem sineSeries_eq_sum (x fuel i : Nat) :
    sineSeries x fuel (i + 1) (sineTerm x i) = ∑ j ∈ range (fuel + 1), (-1) ^ j * (sineTerm x (i + j) : Int) := by
  induction fuel generalizing i with
  | zero => simp [sineSeries]
  | succ fuel ih =>
    have tail : sineSeries x (fuel + 1) (i + 1) (sineTerm x i) =
        sineTerm x i - sineSeries x fuel (i + 1 + 1) (sineTerm x (i + 1)) := rfl
    rw [tail, ih, sum_range_succ' _ (fuel + 1), sub_eq_neg_add, ← sum_neg_distrib]
    simp [pow_succ, add_assoc, add_comm 1]

theorem natDiv_bounds (a b : Nat) : (a : ℝ) / b - 1 ≤ (a / b : Nat) ∧ ((a / b : Nat) : ℝ) ≤ a / b := by
  refine ⟨?_, Nat.cast_div_le⟩
  rw [← Nat.floor_div_eq_div (K := ℝ)]
  exact (Nat.sub_one_lt_floor _).le

/-- A product rounded down, of a factor that is itself up to `e` too small. -/
theorem scaled_bounds {r t a b e : ℝ} (h0 : 0 ≤ r) (h2 : r ≤ 2) (he : 0 ≤ e) (ha : t - e ≤ a ∧ a ≤ t)
    (hb : a * r - 1 ≤ b ∧ b ≤ a * r) : t * r - (2 * e + 1) ≤ b ∧ b ≤ t * r := by
  have lower : (t - e) * r ≤ a * r := mul_le_mul_of_nonneg_right ha.1 h0
  have upper : a * r ≤ t * r := mul_le_mul_of_nonneg_right ha.2 h0
  have error : e * r ≤ e * 2 := mul_le_mul_of_nonneg_left h2 he
  constructor <;> linarith

/-- Rounding down costs a term of the model at most 5 units. -/
theorem sineTerm_bounds {x : Nat} {r : ℝ} (hx : (x : ℝ) = 2 ^ 64 * r) (h2 : r ≤ 2) (i : Nat) :
    2 ^ 64 * exactTerm r i - 5 ≤ sineTerm x i ∧ (sineTerm x i : ℝ) ≤ 2 ^ 64 * exactTerm r i := by
  have h0 : 0 ≤ r := by
    have : (0 : ℝ) ≤ x := x.cast_nonneg
    linarith
  have scaled : ∀ a : Nat, ((a * x : Nat) : ℝ) / ((2 ^ 64 : Nat) : ℝ) = a * r := fun a => by
    push_cast
    rw [hx]
    ring
  induction i with
  | zero =>
    rw [exactTerm_zero, ← hx]
    exact ⟨by simp [sineTerm], le_rfl⟩
  | succ i ih =>
    obtain ⟨d, hd⟩ : ∃ d, d = 2 * (i + 1) * (2 * (i + 1) + 1) := ⟨_, rfl⟩
    have hd6 : (6 : ℝ) ≤ d := by exact_mod_cast show 6 ≤ d by nlinarith
    have next : sineTerm x (i + 1) = sineTerm x i * x / 2 ^ 64 * x / 2 ^ 64 / d := by rw [hd]; rfl
    have step1 := natDiv_bounds (sineTerm x i * x) (2 ^ 64)
    have step2 := natDiv_bounds (sineTerm x i * x / 2 ^ 64 * x) (2 ^ 64)
    obtain ⟨c1, c2⟩ := natDiv_bounds (sineTerm x i * x / 2 ^ 64 * x / 2 ^ 64) d
    rw [scaled] at step1 step2
    obtain ⟨low, high⟩ := scaled_bounds h0 h2 (by norm_num) (scaled_bounds h0 h2 (by norm_num) ih step1) step2
    rw [next, exactTerm_succ, ← hd, ← mul_div_assoc, ← mul_assoc, ← mul_assoc]
    constructor
    · have rounded := div_le_div_of_nonneg_right low (by linarith : (0 : ℝ) ≤ d)
      have : (2 * (2 * 5 + 1) + 1) / (d : ℝ) ≤ 4 := by
        rw [div_le_iff₀ (by linarith)]
        linarith
      rw [sub_div] at rounded
      linarith
    · exact c2.trans (div_le_div_of_nonneg_right high (by linarith))

/-- A sum of thirteen terms, each rounded down, misses the sum of the exact ones by no more than 65 units. -/
theorem abs_sum_sineTerm_sub_le {x : Nat} {r : ℝ} (hx : (x : ℝ) = 2 ^ 64 * r) (h2 : r ≤ 2) :
    |∑ j ∈ range 13, (-1) ^ j * (sineTerm x j : ℝ) - 2 ^ 64 * ∑ j ∈ range 13, (-1) ^ j * exactTerm r j| ≤ 65 := by
  have each : ∀ j : Nat, |(-1) ^ j * (sineTerm x j : ℝ) - 2 ^ 64 * ((-1) ^ j * exactTerm r j)| ≤ 5 := fun j => by
    obtain ⟨l, u⟩ := sineTerm_bounds hx h2 j
    rw [mul_left_comm, ← mul_sub, abs_mul, abs_pow, abs_neg, abs_one, one_pow, one_mul, abs_le]
    constructor <;> linarith
  rw [mul_sum, ← sum_sub_distrib]
  calc _ ≤ ∑ j ∈ range 13, |(-1) ^ j * (sineTerm x j : ℝ) - 2 ^ 64 * ((-1) ^ j * exactTerm r j)| :=
        abs_sum_le_sum_abs _ _
    _ ≤ ∑ j ∈ range 13, (5 : ℝ) := sum_le_sum fun j _ => each j
    _ = 65 := by norm_num

/-! ### The table -/

/-- No sine of the first quarter turn exceeds one by more than 66 units of 2^−64. -/
theorem abs_sineFixed_le {m : Nat} (hm : m ≤ 4096) : |sineFixed m| ≤ 2 ^ 64 + 66 := by
  obtain ⟨x, hx⟩ : ∃ x, x = 57952155664616982739 * m / 8192 := ⟨_, rfl⟩
  have sum : sineFixed m = ∑ j ∈ range 13, (-1) ^ j * (sineTerm x j : Int) := by
    rw [sineFixed, ← hx]
    simpa [sineTerm] using sineSeries_eq_sum x 12 0
  obtain ⟨r, hr⟩ : ∃ r : ℝ, (x : ℝ) = 2 ^ 64 * r := ⟨x / 2 ^ 64, by field_simp⟩
  have hx2 : (x : ℝ) ≤ 2 ^ 64 * 2 := by exact_mod_cast show x ≤ 2 ^ 64 * 2 by omega
  have h2 : r ≤ 2 := by linarith
  have h0 : 0 ≤ r := by linarith [show (0 : ℝ) ≤ x from x.cast_nonneg]
  have last : 2 ^ 64 * exactTerm r 13 ≤ 1 := by
    calc 2 ^ 64 * exactTerm r 13 ≤ 2 ^ 64 * (2 ^ (2 * 13 + 1) / (2 * 13 + 1).factorial) := by unfold exactTerm; gcongr
      _ ≤ 1 := by norm_num [Nat.factorial]
  have rounding := abs_le.1 (abs_sum_sineTerm_sub_le hr h2)
  have cut := abs_le.1 (abs_sin_sub_sum_le h0 h2 13)
  have real : |(sineFixed m : ℝ)| ≤ 2 ^ 64 + 66 := by
    rw [sum, abs_le]
    push_cast
    constructor <;> linarith [Real.sin_le_one r, Real.neg_one_le_sin r]
  exact_mod_cast real

/-- Nor does an entry of the table, once rounded, exceed 32767. -/
theorem sineQuarter_bounds {m : Nat} (hm : m ≤ 4096) : -32767 ≤ sineQuarter m ∧ sineQuarter m ≤ 32767 := by
  have h := abs_le.1 (abs_sineFixed_le hm)
  rw [sineQuarter, roundDiv]
  push_cast
  split_ifs <;> omega

/-- The entries that the manual prints (R29, R30). -/
theorem sine_printed : sine 0 = 0 ∧ sine 1 = 13 ∧ sine 2 = 25 ∧ sine 4 = 50 ∧ sine 1024 = 12539 ∧ sine 2048 = 23170 ∧
    sine 4092 = 32767 ∧ sine 4096 = 32767 ∧ sine 4616 = 32118 ∧ sine 8192 = 0 ∧ sine 8712 = -6491 ∧
    sine 12284 = -32767 ∧ sine 12288 = -32767 := by decide +kernel

/-! The four quarters of the table, each with both its ends (R29). -/

theorem sine_firstQuarter {n : Nat} (h : n ≤ 4096) : sine n = sineQuarter n := by
  have hn : n % 16384 = n := by omega
  simp only [sine, hn, if_pos h]

theorem sine_secondQuarter {n : Nat} (h1 : 4096 ≤ n) (h2 : n ≤ 8192) : sine n = sineQuarter (8192 - n) := by
  rcases h1.eq_or_lt with rfl | h
  · rfl
  · have hn : n % 16384 = n := by omega
    simp only [sine, hn, if_neg (not_le.2 h), if_pos h2]

theorem sine_thirdQuarter {n : Nat} (h1 : 8192 ≤ n) (h2 : n ≤ 12288) : sine n = -sineQuarter (n - 8192) := by
  rcases h1.eq_or_lt with rfl | h
  · decide +kernel
  · have hn : n % 16384 = n := by omega
    have hq : ¬ n ≤ 4096 := by omega
    simp only [sine, hn, if_neg hq, if_neg (not_le.2 h), if_pos h2]

theorem sine_fourthQuarter {n : Nat} (h1 : 12288 ≤ n) (h2 : n < 16384) : sine n = -sineQuarter (16384 - n) := by
  rcases h1.eq_or_lt with h | h
  · have corner : n - 8192 = 16384 - n := by omega
    rw [sine_thirdQuarter (by omega) (by omega), corner]
  · have hn : n % 16384 = n := by omega
    have hq : ¬ n ≤ 4096 := by omega
    have hh : ¬ n ≤ 8192 := by omega
    simp only [sine, hn, if_neg hq, if_neg hh, if_neg (not_le.2 h)]

theorem sine_reflect {n : Nat} (h : n ≤ 8192) : sine (8192 - n) = sine n := by
  rcases le_total n 4096 with hn | hn
  · rw [sine_firstQuarter hn, sine_secondQuarter (by omega) (by omega), Nat.sub_sub_self h]
  · rw [sine_secondQuarter hn h, sine_firstQuarter (by omega)]

theorem sine_add_halfTurn {n : Nat} (h : n < 8192) : sine (n + 8192) = -sine n := by
  rcases le_total n 4096 with hn | hn
  · rw [sine_firstQuarter hn, sine_thirdQuarter (by omega) (by omega), Nat.add_sub_cancel]
  · have turned : 16384 - (n + 8192) = 8192 - n := by omega
    rw [sine_secondQuarter hn h.le, sine_fourthQuarter (by omega) (by omega), turned]

theorem sine_bounds {n : Nat} (h : n < 16384) : -32767 ≤ sine n ∧ sine n ≤ 32767 := by
  have half : ∀ m, m ≤ 8192 → -32767 ≤ sine m ∧ sine m ≤ 32767 := fun m hm => by
    rcases le_total m 4096 with hq | hq
    · rw [sine_firstQuarter hq]
      exact sineQuarter_bounds hq
    · rw [sine_secondQuarter hq hm]
      exact sineQuarter_bounds (by omega)
  rcases le_total n 8192 with hn | hn
  · exact half n hn
  · have opposite := sine_add_halfTurn (n := n - 8192) (by omega)
    rw [Nat.sub_add_cancel hn] at opposite
    have := half (n - 8192) (by omega)
    omega

end Sys2Proof.Machine
end

section
/-! SUPPORT. The stages of a sample (R25 to R35), each said once, and the bounds that admitted values in effect give. -/

namespace Sys2Proof.Machine

/-! ### The range -/

theorem walkBand_val (x : Sample) : (walkBand x).val = if x.sat then 15 else x.intensity.toNat / 16 := by
  unfold walkBand
  split <;> rfl

theorem correctedRange_eq (sum : Int) : correctedRange sum = max 0 (min 65535 sum) := by
  unfold correctedRange clamp
  split_ifs <;> omega

theorem rangeClamped_iff (sum : Int) : rangeClamped sum = true ↔ sum < 0 ∨ 65535 < sum := decide_eq_true_iff

/-- The class by the first row of R27 that applies. -/
theorem validity_eq (s : State) (x : Sample) :
    validity s x =
      if x.nr = true then .dropout
      else if x.mult = true ∧ s.eff Param.multiPolicy = 1 then .dropout
      else if rangeSum s x < 0 ∨ 65535 < rangeSum s x then .outOfWindow
      else if correctedRange (rangeSum s x) = 0 then .outOfWindow
      else if correctedRange (rangeSum s x) < s.eff Param.minRange ∨
        s.eff Param.maxRange < correctedRange (rangeSum s x) then .outOfWindow
      else .valid := by
  simp only [validity, rangeClamped_iff]

/-- A valid sample's corrected range is not 0 and not above max_range, which is at most 65534 (R27). -/
theorem correctedRange_of_valid {s : State} {x : Sample} (hs : s.EffectAdmitted) (h : validity s x = .valid) :
    1 ≤ correctedRange (rangeSum s x) ∧ correctedRange (rangeSum s x) ≤ 65534 := by
  have upper : 1 ≤ s.eff Param.maxRange ∧ s.eff Param.maxRange ≤ 65534 := of_decide_eq_true (hs.1 Param.maxRange)
  have clamped : 0 ≤ correctedRange (rangeSum s x) ∧ correctedRange (rangeSum s x) ≤ 65535 :=
    clamp_bounds (by decide) _
  rw [validity_eq] at h
  split_ifs at h with _ _ _ zero window
  omega

/-! ### The point -/

/-- `h` is `product` over 32768 rounded to nearest, halves away from zero (§0.5, R31). -/
def RoundsTo (h product : Int) : Prop :=
  |2 * (32768 * h - product)| ≤ 32768 ∧ (|2 * (32768 * h - product)| = 32768 → |product| < 32768 * |h|)

theorem roundDiv_of_nonneg {p : Int} (hp : 0 ≤ p) : RoundsTo (roundDiv p 32768) p := by
  have hh : 0 ≤ roundDiv p 32768 ∧ -32768 < 2 * (32768 * roundDiv p 32768 - p) ∧
      2 * (32768 * roundDiv p 32768 - p) ≤ 32768 := by
    rw [roundDiv, if_pos hp]
    omega
  obtain ⟨h0, hl, hu⟩ := hh
  refine ⟨abs_le.2 ⟨hl.le, hu⟩, fun half => ?_⟩
  rw [abs_of_nonneg hp, abs_of_nonneg h0]
  rcases abs_choice (2 * (32768 * roundDiv p 32768 - p)) with e | e <;> omega

theorem RoundsTo.neg {h p : Int} (k : RoundsTo h p) : RoundsTo (-h) (-p) := by
  have e : 2 * (32768 * -h - -p) = -(2 * (32768 * h - p)) := by ring
  simpa only [RoundsTo, e, abs_neg] using k

/-- A head-frame coordinate is rounded as R31 says: below zero as above it, with the sign turned. -/
theorem headCoordinate_roundsTo (c t : Int) : RoundsTo (headCoordinate c t) (c * t) := by
  unfold headCoordinate
  rcases le_or_gt 0 (c * t) with hp | hp
  · exact roundDiv_of_nonneg hp
  · have mirrored : roundDiv (c * t) 32768 = -roundDiv (-(c * t)) 32768 := by
      rw [roundDiv, roundDiv, if_neg hp.not_ge, if_pos (by omega)]
    rw [mirrored]
    simpa using (roundDiv_of_nonneg (p := -(c * t)) (by omega)).neg

/-- A range of a valid sample and a table value give at most 65533 in size. -/
theorem headCoordinate_bounds {c t : Int} (hc : 1 ≤ c ∧ c ≤ 65534) (ht : -32767 ≤ t ∧ t ≤ 32767) :
    -65533 ≤ headCoordinate c t ∧ headCoordinate c t ≤ 65533 := by
  have product : |c * t| ≤ 65534 * 32767 := by
    rw [abs_mul]
    exact mul_le_mul (abs_le.2 ⟨by omega, hc.2⟩) (abs_le.2 ht) (abs_nonneg t) (by decide)
  have near := abs_le.1 (headCoordinate_roundsTo c t).1
  have := abs_le.1 product
  omega

/-! ### The judgement -/

theorem limitOf_eq (s : State) (slot : Option SlotId) (i : Sector) :
    (limitOf s slot i : Int) = match slot with | some k => ((s.envelopes[k].live[i]).toNat : Int) | none => 0 := by
  cases slot <;> rfl

theorem judge_clearance (limit margin : Nat) (c : Int) :
    (judge limit margin c).1 = if (limit : Int) = 0 then none else some (c - limit) := by
  simp only [judge, Nat.cast_eq_zero]
  split_ifs <;> rfl

theorem judge_judgement (limit margin : Nat) (c : Int) :
    (judge limit margin c).2 =
      if (limit : Int) = 0 then .unguarded
      else if c < limit then .infringing
      else if c - limit < margin then .warning
      else .clear := by
  simp only [judge, Nat.cast_eq_zero, sub_neg]
  split_ifs <;> rfl

/-! ### A solved sample -/

theorem sectorOf_val {theta : Nat} (h : theta < 16384) : (sectorOf theta).val = theta / 64 := by
  simp only [sectorOf, Fin.ofNat]
  omega

/-- With admitted values in effect the track-frame point of a valid sample fits the three bytes it is sent in (R32). -/
theorem solve_point_bounds {s : State} {x : Sample} {theta : Nat} (ring : RingContext) (ht : theta < 16384)
    (hs : s.EffectAdmitted) (h : validity s x = .valid) :
    -98301 ≤ (solve s ring theta x).point.y ∧ (solve s ring theta x).point.y ≤ 98300 ∧
      -65533 ≤ (solve s ring theta x).point.z ∧ (solve s ring theta x).point.z ≤ 98300 := by
  have range := correctedRange_of_valid hs h
  have y := headCoordinate_bounds range (sine_bounds ht)
  have z := headCoordinate_bounds range (sine_bounds (Nat.mod_lt (theta + 4096) (by decide : 16384 > 0)))
  have lat : -32768 ≤ s.eff Param.latOffset ∧ s.eff Param.latOffset ≤ 32767 := of_decide_eq_true (hs.1 Param.latOffset)
  have height : 0 ≤ s.eff Param.heightOffset ∧ s.eff Param.heightOffset ≤ 32767 :=
    of_decide_eq_true (hs.1 Param.heightOffset)
  simp only [solve, cosine]
  omega

/-- Settles O59: the table by its printed entries and its symmetries, then stage by stage. What carries the bounds is
that no table entry exceeds 32767 in size. -/
theorem sampleStages : Obligations.SampleStages := by
  constructor
  · obtain ⟨e0, e1, e2, e4, e1024, e2048, e4092, e4096, e4616, e8192, e8712, e12284, e12288⟩ := sine_printed
    exact ⟨e0, e1, e2, e4, e1024, e2048, e4092, e4096, e4616, e8192, e8712, e12284, e12288, fun _ => sine_reflect,
      fun _ => sine_add_halfTurn⟩
  · intro s x theta
    refine ⟨walkBand_val x, ?_⟩
    intro sum c
    have hc : c = correctedRange (rangeSum s x) := (correctedRange_eq _).symm
    rw [hc]
    refine ⟨rfl, validity_eq s x, fun ring ht => ?_⟩
    intro v rounds limit
    have hl : limit = limitOf s ring.slot v.sector := (limitOf_eq s ring.slot v.sector).symm
    have hy : v.point.y - s.eff Param.latOffset = headCoordinate (correctedRange (rangeSum s x)) (sine theta) :=
      add_sub_cancel_right _ _
    have hz : v.point.z - s.eff Param.heightOffset = headCoordinate (correctedRange (rangeSum s x)) (cosine theta) :=
      add_sub_cancel_right _ _
    rw [hl, hy, hz]
    refine ⟨headCoordinate_roundsTo _ _, headCoordinate_roundsTo _ _, sectorOf_val ht, rfl, rfl, judge_clearance _ _ _,
      judge_judgement _ _ _, fun hs hv => ?_⟩
    obtain ⟨lower, upper⟩ := correctedRange_of_valid hs hv
    exact ⟨lower, upper, solve_point_bounds ring ht hs hv⟩

end Sys2Proof.Machine
end

section
/-! SUPPORT. The request rows by kind: which performing each has, and how a refusal of it ends (R167, R168). -/

namespace Sys2Proof.Machine

/-- The performing of a request of a kind. -/
def RequestKind.body : RequestKind → Request → Work → Work
  | .identify => Machine.identify
  | .readStatus => Machine.readStatus
  | .clearCauses => Machine.clearCauses
  | .setParam => Machine.setParam
  | .getParam => Machine.getParam
  | .loadEnvelope => Machine.loadEnvelope
  | .commitEnvelope => Machine.commitEnvelope
  | .readEnvelope => Machine.readEnvelope
  | .loadRoute => Machine.loadRoute
  | .trimRoute => Machine.trimRoute
  | .readRoute => Machine.readRoute
  | .start => Machine.start
  | .pause => Machine.pause
  | .resume => Machine.resume
  | .stop => Machine.stop
  | .clearFault => Machine.clearFault
  | .fixChainage => Machine.fixChainage
  | .readIntrusions => Machine.readIntrusions
  | .headPass => Machine.headPass
  | .reset => Machine.reset

/-- The command of a request kind performs a request of that kind, and of no other. -/
theorem exec_performingCommand (k : RequestKind) (s : State) :
    exec (performingCommand (some k)) s = perform k.only k.body s := by
  cases k <;> rfl

section
variable {s : State} {k : RequestKind} {r : Request} {rest : List Request}

/-- A request performed, from the state without it. -/
theorem State.Offers.exec_eq (h : s.Offers k r rest) :
    exec (performingCommand (some k)) s =
      (k.body r { st := s.withLink { s.link with requests := rest }, fatal := none }).done := by
  rw [exec_performingCommand, perform_of_offers h]

/-- A request whose performing is a refusal is answered so and changes nothing else (R168). -/
theorem State.Offers.exec_of_refuse (h : s.Offers k r rest) (hroom : s.room 1) {why : Reason} {index : Option Nat}
    (hbody : k.body r { st := s.withLink { s.link with requests := rest }, fatal := none } =
      ({ st := s.withLink { s.link with requests := rest }, fatal := none } : Work).refuse r why index) :
    exec (performingCommand (some k)) s =
      .next ((s.reported why.cause).answered rest (refusedTo r why (indexBytes index))) := by
  rw [h.exec_eq, hbody, Work.refuse_done hroom]

/-! ### Kinds and lengths -/

/-- A kind byte names the kind whose code it is, and no other (R167). -/
theorem kindOf_eq_some_iff {b : Byte} : kindOf b = some k ↔ b = k.code := by
  refine ⟨fun h => ?_, fun h => by rw [h, kindOf_code]⟩
  have same : (k.code == b) = true := List.find?_some (p := fun k : RequestKind => k.code == b) h
  exact (beq_iff_eq.1 same).symm

theorem kindOf_eq_none_iff {b : Byte} : kindOf b = none ↔ ∀ k : RequestKind, b ≠ k.code := by
  simp only [Option.eq_none_iff_forall_ne_some, ne_eq, kindOf_eq_some_iff]

/-- `wholeItems` says that a length is that of 1 to `most` items of `size` bytes. -/
theorem wholeItems_iff {n size most : Nat} (hsize : 0 < size) :
    wholeItems n size most = true ↔ ∃ m, 1 ≤ m ∧ m ≤ most ∧ n = size * m := by
  simp only [wholeItems, Bool.and_eq_true, decide_eq_true_eq]
  constructor
  · rintro ⟨⟨hmod, hone⟩, hmost⟩
    exact ⟨n / size, hone, hmost, (Nat.mul_div_cancel' (Nat.dvd_of_mod_eq_zero hmod)).symm⟩
  · rintro ⟨m, hone, hmost, rfl⟩
    rw [Nat.mul_mod_right, Nat.mul_div_cancel_left m hsize]
    exact ⟨⟨rfl, hone⟩, hmost⟩

/-- A load has two bytes before its items, so its length is legal exactly when the rest is whole items (§12.3). -/
theorem legalLength_loadEnvelope_iff {a b : Byte} {limits : List Byte} :
    RequestKind.loadEnvelope.legalLength (a :: b :: limits).length ↔ wholeItems limits.length 2 64 = true := by
  rw [wholeItems_iff (by decide)]
  simp only [RequestKind.legalLength, List.length_cons]
  exact exists_congr fun m => by omega

theorem legalLength_loadRoute_iff {a b : Byte} {body : List Byte} :
    RequestKind.loadRoute.legalLength (a :: b :: body).length ↔ wholeItems body.length 8 32 = true := by
  rw [wholeItems_iff (by decide)]
  simp only [RequestKind.legalLength, List.length_cons]
  exact exists_congr fun m => by omega

/-- A request of a wrong length is refused before anything else about it is looked at (R168). -/
theorem RequestKind.body_of_badLength {w : Work} (h : ¬ k.legalLength r.payload.length) :
    k.body r w = w.refuse r .badLength none := by
  cases k with
  | identify | readStatus | pause | resume | stop | clearFault | readIntrusions | reset =>
    exact if_neg fun e => h (by rw [e]; rfl)
  | clearCauses | headPass => exact if_neg h
  | setParam | getParam | commitEnvelope | readEnvelope | trimRoute | readRoute | start | fixChainage =>
    simp only [body, Machine.setParam, Machine.getParam, Machine.commitEnvelope, Machine.readEnvelope,
      Machine.trimRoute, Machine.readRoute, Machine.start, Machine.fixChainage]
    split
    · next e => exact absurd (congrArg List.length e) h
    · rfl
  | loadEnvelope =>
    simp only [body, Machine.loadEnvelope]
    split
    · next e => exact if_neg fun c => h (e ▸ legalLength_loadEnvelope_iff.2 c)
    · rfl
  | loadRoute =>
    simp only [body, Machine.loadRoute]
    split
    · next e => exact if_neg fun c => h (e ▸ legalLength_loadRoute_iff.2 c)
    · rfl

/-- A request of no known kind, refused by its own row (R167). -/
theorem exec_unknownKind (hq : s.link.requests = r :: rest) (hk : ∀ k : RequestKind, r.kind ≠ k.code)
    (hfree : s.link.agent = .free) (hplace : s.link.responses.length < 4) (hroom : s.room 1) :
    exec .unknownKind s = .next ((s.reported .reqUnknown).answered rest (refusedTo r .unknownKind [])) := by
  have taken : s.takes Option.isNone = some r := by
    simp [State.takes, hq, RecorderLink.ready, hfree, Config.maxResponses, hplace, kindOf_eq_none_iff.2 hk]
  have dropped : s.dropRequest = s.withLink { s.link with requests := rest } := by
    rw [State.dropRequest, hq, List.tail_cons]
  change perform Option.isNone unknownKind s = _
  rw [perform, taken, dropped]
  exact Work.refuse_done hroom

end

/-- Settles O32: the codes and commands by evaluation, one kind after another; the refusals by `exec_unknownKind` and
`RequestKind.body_of_badLength`. -/
theorem unknownKindAndBadLength : Obligations.UnknownKindAndBadLength := by
  refine ⟨by intro k; cases k <;> decide, rfl, fun _ _ => kindOf_eq_some_iff, ?_, ?_⟩
  · intro s r rest hq hk hfree hplace hroom
    exact exec_unknownKind hq hk hfree hplace hroom
  · intro s k r rest hoffers hroom hlen
    exact hoffers.exec_of_refuse hroom (RequestKind.body_of_badLength hlen)

end Sys2Proof.Machine
end

section
/-! SUPPORT. Requests with an operand out of range (R39, R41, R45, R107, R109, R110, R148, R149): which reading of an
operand fails, and that the request's performing is then the refusal. -/

namespace Sys2Proof.Machine

/-! ### Operands -/

theorem readParamId_eq_none {id : Byte} (h : id.toNat = 0 ∨ 46 < id.toNat) : readParamId id = none :=
  dif_neg (by omega)

theorem readSlot_eq_none {slot : Byte} (h : 8 ≤ slot.toNat) : readSlot slot = none := dif_neg (by omega)

theorem readSlot_eq_some {slot : Byte} {k : SlotId} (h : slot.toNat = k.val) : readSlot slot = some k := by
  have small : slot.toNat < 8 := by omega
  rw [readSlot, dif_pos small]
  exact congrArg some (Fin.ext h)

/-- Two bytes spell a number low byte first (§0.5). -/
theorem readLe_pair (lo hi : Byte) : readLe [lo, hi] = lo.toNat + 256 * hi.toNat := by
  simp [readLe]

/-- The two bytes of a number that two bytes spelled. -/
theorem leBytes_pair (lo hi : Byte) : leBytes 2 (lo.toNat + 256 * hi.toNat) = [lo, hi] := by
  have hlo := lo.isLt
  have hhi := hi.isLt
  have low : BitVec.ofNat 8 (lo.toNat + 256 * hi.toNat) = lo := by
    apply BitVec.eq_of_toNat_eq
    rw [BitVec.toNat_ofNat]
    omega
  have high : BitVec.ofNat 8 ((lo.toNat + 256 * hi.toNat) / 256) = hi := by
    apply BitVec.eq_of_toNat_eq
    rw [BitVec.toNat_ofNat]
    omega
  simp only [leBytes, low, high]

/-! ### Entries of a load -/

/-- The kind, slot and warn margin of a route entry that R107 refuses. -/
def IllegalFields (kind slot margin : Nat) : Prop :=
  2 ≤ kind ∨ (kind = 0 ∧ ((8 ≤ slot ∧ slot ≠ 255) ∨ (4095 < margin ∧ margin ≠ 65535)))

theorem readSegmentSlot_eq_none_iff {slot : Byte} :
    readSegmentSlot slot = none ↔ 8 ≤ slot.toNat ∧ slot.toNat ≠ 255 := by
  have named : slot = 0xFF ↔ slot.toNat = 255 := BitVec.toNat_eq
  simp only [readSegmentSlot, readSlot, named]
  split_ifs <;> simp <;> omega

theorem readMargin_eq_none_iff {n : Nat} : readMargin n = none ↔ 4095 < n ∧ n ≠ 65535 := by
  unfold readMargin
  split_ifs <;> simp <;> omega

theorem readEntry_eq_none_iff {kind slot f0 f1 c0 c1 c2 c3 : Byte} :
    readEntry kind slot f0 f1 c0 c1 c2 c3 = none ↔
      IllegalFields kind.toNat slot.toNat (f0.toNat + 256 * f1.toNat) := by
  have zero : kind = 0 ↔ kind.toNat = 0 := BitVec.toNat_eq
  have one : kind = 1 ↔ kind.toNat = 1 := BitVec.toNat_eq
  rw [IllegalFields, ← readSegmentSlot_eq_none_iff, ← readMargin_eq_none_iff, readEntry, readLe_pair]
  simp only [zero, one]
  by_cases h0 : kind.toNat = 0
  · rw [if_pos h0]
    cases readSegmentSlot slot <;> cases readMargin (f0.toNat + 256 * f1.toNat) <;> simp [h0]
  · rw [if_neg h0]
    split_ifs <;> simp <;> omega

/-- Entry `k` of a load, read at its place in the load's bytes. -/
def entryAt (body : List Byte) (k : Nat) : Option RouteEntry :=
  let field (j : Nat) : Byte := body.getD (8 * k + j) 0
  readEntry (field 0) (field 1) (field 2) (field 3) (field 4) (field 5) (field 6) (field 7)

theorem entryAt_succ (b0 b1 b2 b3 b4 b5 b6 b7 : Byte) (rest : List Byte) (k : Nat) :
    entryAt (b0 :: b1 :: b2 :: b3 :: b4 :: b5 :: b6 :: b7 :: rest) (k + 1) = entryAt rest k := rfl

/-- A load's entries are those at the places of its bytes. -/
theorem readEntryList_eq (body : List Byte) :
    readEntryList body = (List.range (body.length / 8)).map (entryAt body) := by
  induction body using readEntryList.induct with
  | case1 b0 b1 b2 b3 b4 b5 b6 b7 rest ih =>
    have count : (b0 :: b1 :: b2 :: b3 :: b4 :: b5 :: b6 :: b7 :: rest).length / 8 = rest.length / 8 + 1 := by
      simp only [List.length_cons]
      omega
    rw [readEntryList, ih, count, List.range_succ_eq_map, List.map_cons, List.map_map]
    rfl
  | case2 body short =>
    have few : body.length < 8 := by
      match body, short with
      | [], _ | [_], _ | [_, _], _ | [_, _, _], _ | [_, _, _, _], _ | [_, _, _, _, _], _ | [_, _, _, _, _, _], _
      | [_, _, _, _, _, _, _], _ => simp
      | b0 :: b1 :: b2 :: b3 :: b4 :: b5 :: b6 :: b7 :: rest, short =>
        exact absurd rfl (short b0 b1 b2 b3 b4 b5 b6 b7 rest)
    rw [Nat.div_eq_of_lt few]
    unfold readEntryList
    split
    · exact absurd rfl (short _ _ _ _ _ _ _ _ _)
    · rfl

/-- The first illegal entry of a load: illegal itself, and no earlier one is. -/
theorem firstIllegal_eq_some {es : List (Option RouteEntry)} {k : Nat} (i : Nat) (hk : es[k]? = some none)
    (earlier : ∀ j < k, es[j]? ≠ some none) : firstIllegal es i = some (i + k) := by
  induction es generalizing k i with
  | nil => simp at hk
  | cons e es ih =>
    cases k with
    | zero =>
      obtain rfl : e = none := by simpa using hk
      rfl
    | succ k =>
      cases e with
      | none => exact absurd rfl (earlier 0 (by omega))
      | some e =>
        rw [firstIllegal, ih (i + 1) hk fun j hj => earlier (j + 1) (by omega)]
        congr 1
        omega

/-! ### Refusals -/

section
variable {s : State} {r : Request} {rest : List Request}

/-- A refusal on an operand of a kind's request, with the index its rule gives. -/
theorem State.Offers.exec_of_outOfRange {k : RequestKind} (h : s.Offers k r rest) (hroom : s.room 1)
    {index : Option Nat} (hbody : ∀ w : Work, w.st = s.withLink { s.link with requests := rest } →
      k.body r w = w.refuse r .outOfRange index) :
    exec (performingCommand (some k)) s =
      .next ((s.reported .reqRange).answered rest (refusedTo r .outOfRange (indexBytes index))) :=
  h.exec_of_refuse hroom (hbody _ rfl)

variable {w : Work}

theorem setParam_outOfRange {id v0 v1 v2 v3 : Byte} (hp : r.payload = [id, v0, v1, v2, v3])
    (h : id.toNat = 0 ∨ 46 < id.toNat) : setParam r w = w.refuse r .outOfRange none := by
  simp only [setParam, hp, readParamId_eq_none h]

theorem getParam_outOfRange {id : Byte} (hp : r.payload = [id]) (h : id.toNat = 0 ∨ 46 < id.toNat) :
    getParam r w = w.refuse r .outOfRange none := by
  simp only [getParam, hp, readParamId_eq_none h]

theorem loadEnvelope_outOfRange {slot first : Byte} {limits : List Byte} (hp : r.payload = slot :: first :: limits)
    (hlen : RequestKind.loadEnvelope.legalLength r.payload.length) (h : 8 ≤ slot.toNat) :
    loadEnvelope r w = w.refuse r .outOfRange none := by
  rw [hp, legalLength_loadEnvelope_iff] at hlen
  simp only [loadEnvelope, hp, hlen, if_true, readSlot_eq_none h]

theorem commitEnvelope_outOfRange {slot : Byte} (hp : r.payload = [slot]) (h : 8 ≤ slot.toNat) :
    commitEnvelope r w = w.refuse r .outOfRange none := by
  simp only [commitEnvelope, hp, readSlot_eq_none h]

/-- The byte of a copy's code is 0 or 1. -/
theorem copy_legal_iff {copy : Byte} : copy = 0 ∨ copy = 1 ↔ copy.toNat ≤ 1 := by
  have zero : copy = 0 ↔ copy.toNat = 0 := BitVec.toNat_eq
  have one : copy = 1 ↔ copy.toNat = 1 := BitVec.toNat_eq
  rw [zero, one]
  omega

theorem readEnvelope_outOfRange {slot copy first count : Byte} (hp : r.payload = [slot, copy, first, count])
    (h : 8 ≤ slot.toNat ∨ 2 ≤ copy.toNat ∨ count.toNat = 0 ∨ 64 < count.toNat) :
    readEnvelope r w = w.refuse r .outOfRange none := by
  by_cases hslot : 8 ≤ slot.toNat
  · simp only [readEnvelope, hp, readSlot_eq_none hslot]
  · have named : readSlot slot = some ⟨slot.toNat, by omega⟩ := readSlot_eq_some rfl
    simp only [readEnvelope, hp, named, copy_legal_iff]
    exact if_neg (by omega)

theorem State.routeOpen_of (h : s.ctrl.run = .idle ∨ s.ctrl.run = .fault) : s.routeOpen = true := by
  simpa [State.routeOpen] using h

theorem trimRoute_outOfRange {n0 n1 : Byte} (hp : r.payload = [n0, n1])
    (hrun : w.st.ctrl.run = .idle ∨ w.st.ctrl.run = .fault)
    (h : w.st.route.entries.length < n0.toNat + 256 * n1.toNat) :
    trimRoute r w = w.refuse r .outOfRange none := by
  simp only [trimRoute, hp, readLe_pair, State.routeOpen_of hrun, if_true]
  exact if_neg (by omega)

theorem readRoute_outOfRange {f0 f1 count : Byte} (hp : r.payload = [f0, f1, count])
    (h : w.st.route.entries.length < f0.toNat + 256 * f1.toNat ∨ count.toNat = 0 ∨ 32 < count.toNat) :
    readRoute r w = w.refuse r .outOfRange none := by
  simp only [readRoute, hp, readLe_pair]
  exact if_neg (by omega)

/-- A load that begins beyond the table's end or passes entry 511 is refused with its first index (R107). -/
theorem loadRoute_index_outOfRange {f0 f1 : Byte} {body : List Byte} (hp : r.payload = f0 :: f1 :: body)
    (hlen : RequestKind.loadRoute.legalLength r.payload.length)
    (hrun : w.st.ctrl.run = .idle ∨ w.st.ctrl.run = .fault)
    (h : w.st.route.entries.length < f0.toNat + 256 * f1.toNat ∨ 512 < f0.toNat + 256 * f1.toNat + body.length / 8) :
    loadRoute r w = w.refuse r .outOfRange (some (f0.toNat + 256 * f1.toNat)) := by
  rw [hp, legalLength_loadRoute_iff] at hlen
  simp only [loadRoute, hp, hlen, readLe_pair, State.routeOpen_of hrun, if_true, readEntryList_eq, List.length_map,
    List.length_range, Config.maxRoute]
  exact if_neg (by omega)

/-- A load whose first illegal entry is number `k` is refused with the index that entry would have taken (R107). -/
theorem loadRoute_entry_outOfRange {f0 f1 : Byte} {body : List Byte} {k : Nat} (hp : r.payload = f0 :: f1 :: body)
    (hlen : RequestKind.loadRoute.legalLength r.payload.length)
    (hrun : w.st.ctrl.run = .idle ∨ w.st.ctrl.run = .fault)
    (hf : f0.toNat + 256 * f1.toNat ≤ w.st.route.entries.length)
    (hend : f0.toNat + 256 * f1.toNat + body.length / 8 ≤ 512) (hk : k < body.length / 8)
    (illegal : entryAt body k = none) (earlier : ∀ j < k, entryAt body j ≠ none) :
    loadRoute r w = w.refuse r .outOfRange (some (f0.toNat + 256 * f1.toNat + k)) := by
  have first : firstIllegal (readEntryList body) 0 = some k := by
    rw [readEntryList_eq]
    have standing : ∀ j < body.length / 8,
        ((List.range (body.length / 8)).map (entryAt body))[j]? = some (entryAt body j) := by
      intro j hj
      simp [hj]
    have found := firstIllegal_eq_some 0 (by rw [standing k hk, illegal]) fun j hj => by
      rw [standing j (hj.trans hk)]
      exact fun e => earlier j hj (Option.some.inj e)
    rwa [Nat.zero_add] at found
  have fits : f0.toNat + 256 * f1.toNat ≤ w.st.route.entries.length ∧
      f0.toNat + 256 * f1.toNat + (readEntryList body).length ≤ Config.maxRoute := by
    rw [readEntryList_eq, List.length_map, List.length_range]
    exact ⟨hf, hend⟩
  rw [hp, legalLength_loadRoute_iff] at hlen
  simp only [loadRoute, hp, hlen, readLe_pair, State.routeOpen_of hrun, if_true, fits, and_self, first]

end

/-- Settles O34: each refusal is the performing's own, by the reading of the operand that fails. -/
theorem outOfRangeRefused : Obligations.OutOfRangeRefused := by
  intro s r rest hroom answer
  refine ⟨?_, ?_, ?_, ?_, ?_, ?_, ?_, ?_⟩
  · intro id v0 v1 v2 v3 ho hp h
    exact ho.exec_of_outOfRange hroom fun _ _ => setParam_outOfRange hp h
  · intro id ho hp h
    exact ho.exec_of_outOfRange hroom fun _ _ => getParam_outOfRange hp h
  · intro slot first limits ho hp hlen h
    exact ho.exec_of_outOfRange hroom fun _ _ => loadEnvelope_outOfRange hp hlen h
  · intro slot ho hp h
    exact ho.exec_of_outOfRange hroom fun _ _ => commitEnvelope_outOfRange hp h
  · intro slot copy first count ho hp h
    exact ho.exec_of_outOfRange hroom fun _ _ => readEnvelope_outOfRange hp h
  · intro n0 n1 ho hp hrun h
    exact ho.exec_of_outOfRange hroom fun w hw => trimRoute_outOfRange hp (by rw [hw]; exact hrun) (by rw [hw]; exact h)
  · intro f0 f1 count ho hp h
    exact ho.exec_of_outOfRange hroom fun w hw => readRoute_outOfRange hp (by rw [hw]; exact h)
  · intro f0 f1 body ho hp hlen hrun f
    constructor
    · intro h
      have refused := ho.exec_of_outOfRange hroom fun w hw =>
        loadRoute_index_outOfRange hp hlen (by rw [hw]; exact hrun) (by rw [hw]; exact h)
      rw [indexBytes, leBytes_pair] at refused
      exact refused
    · intro hf hend field margin illegal k hk hkill earlier
      exact ho.exec_of_outOfRange hroom fun w hw =>
        loadRoute_entry_outOfRange hp hlen (by rw [hw]; exact hrun) (by rw [hw]; exact hf) hend hk
          (readEntry_eq_none_iff.2 hkill) fun j hj e => earlier j hj (readEntry_eq_none_iff.1 e)

end Sys2Proof.Machine
end

section
/-! SUPPORT. The requests over envelopes: what a load writes and a read returns of a copy, limit by limit, and what an
accepted LOAD_ENVELOPE, COMMIT_ENVELOPE and READ_ENVELOPE make of the state (R39 to R41, R45). -/

namespace Sys2Proof.Machine

/-! ### Limits of a copy -/

/-- The limits of a load are those at the places of its bytes. -/
theorem readLimitList_eq (limits : List Byte) :
    readLimitList limits = (List.range (limits.length / 2)).map fun j =>
      BitVec.ofNat 16 ((limits.getD (2 * j) 0).toNat + 256 * (limits.getD (2 * j + 1) 0).toNat) := by
  induction limits using readLimitList.induct with
  | case1 lo hi rest ih =>
    have count : (lo :: hi :: rest).length / 2 = rest.length / 2 + 1 := by
      simp only [List.length_cons]
      omega
    rw [readLimitList, ih, count, List.range_succ_eq_map, List.map_cons, List.map_map, readLe_pair]
    rfl
  | case2 limits short =>
    match limits, short with
    | [], _ | [_], _ => simp [readLimitList]
    | lo :: hi :: rest, short => exact absurd rfl (short lo hi rest)

theorem readLimitList_length (limits : List Byte) : (readLimitList limits).length = limits.length / 2 := by
  rw [readLimitList_eq, List.length_map, List.length_range]

/-- A limit of two bytes is the number they spell. -/
theorem readLimitList_getElem_toNat (limits : List Byte) (j : Nat) (hj : j < (readLimitList limits).length) :
    ((readLimitList limits)[j]).toNat =
      (limits.getD (2 * j) 0).toNat + 256 * (limits.getD (2 * j + 1) 0).toNat := by
  have hlo := (limits.getD (2 * j) 0).isLt
  have hhi := (limits.getD (2 * j + 1) 0).isLt
  simp only [readLimitList_eq, List.getElem_map, List.getElem_range, BitVec.toNat_ofNat]
  omega

/-- A sector that no limit of a load goes to keeps its limit (R40). -/
theorem writeLimits_getElem_of_ne (xs : List (BitVec 16)) (copy : Vector (BitVec 16) 256) (f i : Sector)
    (h : ∀ j < xs.length, i.val ≠ (f.val + j) % 256) : (writeLimits copy f xs)[i] = copy[i] := by
  induction xs generalizing copy f with
  | nil => rfl
  | cons x xs ih =>
    have next : (f + 1).val = (f.val + 1) % 256 := Fin.val_add f 1
    have away : f.val ≠ i.val := by
      have := h 0 (by simp)
      omega
    rw [writeLimits, ih]
    · simp [Vector.getElem_set_ne, away]
    · intro j hj
      have := h (j + 1) (by simpa using hj)
      omega

/-- Limit `j` of a load of at most 256 goes to sector `(f + j) mod 256` (R40). -/
theorem writeLimits_getElem_of_eq (xs : List (BitVec 16)) (copy : Vector (BitVec 16) 256) (f i : Sector) (j : Nat)
    (hj : j < xs.length) (hxs : xs.length ≤ 256) (hi : i.val = (f.val + j) % 256) :
    (writeLimits copy f xs)[i] = xs[j] := by
  induction xs generalizing copy f j with
  | nil => simp at hj
  | cons x xs ih =>
    have next : (f + 1).val = (f.val + 1) % 256 := Fin.val_add f 1
    simp only [List.length_cons] at hj hxs
    cases j with
    | zero =>
      have here : i = f := Fin.ext (by omega)
      rw [writeLimits, writeLimits_getElem_of_ne xs _ _ _ fun j hj => by omega, here]
      simp
    | succ j => exact ih _ _ j (by omega) (by omega) (by omega)

/-- A read returns the limits of successive sectors, modulo 256 (R45). -/
theorem readLimits_eq (copy : Vector (BitVec 16) 256) (f : Sector) (n : Nat) :
    readLimits copy f n = (List.range n).map fun j => copy[(f.val + j) % 256]'(Nat.mod_lt _ (by decide)) := by
  induction n generalizing f with
  | zero => rfl
  | succ n ih =>
    have next : (f + 1).val = (f.val + 1) % 256 := Fin.val_add f 1
    have here : (f.val + 0) % 256 = f.val := Nat.mod_eq_of_lt f.isLt
    have later (j : Nat) : ((f + 1).val + j) % 256 = (f.val + (j + 1)) % 256 := by omega
    simp only [readLimits, ih, List.range_succ_eq_map, List.map_cons, List.map_map, here, later]
    rfl

/-! ### Accepted requests -/

section
variable {s : State} {r : Request} {rest : List Request} {k : SlotId} {slot first copy count : Byte}
  {limits : List Byte}

/-- A request that replaces a slot of the Envelope Store is answered DONE and changes nothing else. -/
theorem State.Offers.exec_of_setEnvelope {kind : RequestKind} (h : s.Offers kind r rest) {e : EnvelopeSlot}
    (hbody : ∀ w : Work, w.st.envelopes = s.envelopes → w.st.ctrl = s.ctrl →
      kind.body r w = (w.modify fun s => s.setEnvelope k e).finish r []) :
    exec (performingCommand (some kind)) s =
      .next ((s.withEnvelopes (s.envelopes.set k.val e)).answered rest (doneTo r [])) := by
  rw [h.exec_eq, hbody _ rfl rfl]
  rfl

/-- An accepted LOAD_ENVELOPE (R40). -/
theorem State.Offers.exec_loadEnvelope (h : s.Offers .loadEnvelope r rest) (hp : r.payload = slot :: first :: limits)
    (hlen : RequestKind.loadEnvelope.legalLength r.payload.length) (hslot : slot.toNat = k.val)
    (hstate : s.envelopes[k].state ≠ .waiting) :
    exec .loadEnvelope s = .next ((s.withEnvelopes (s.envelopes.set k.val
      (s.envelopes[k].load (Fin.ofNat 256 first.toNat) (readLimitList limits)))).answered rest (doneTo r [])) := by
  rw [hp, legalLength_loadEnvelope_iff] at hlen
  refine h.exec_of_setEnvelope fun w he _ => ?_
  simp only [RequestKind.body, loadEnvelope, hp, hlen, if_true, readSlot_eq_some hslot, he, hstate, if_false,
    Work.modify]

/-- A LOAD_ENVELOPE of a WAITING slot (R39). -/
theorem State.Offers.exec_loadEnvelope_of_waiting (h : s.Offers .loadEnvelope r rest)
    (hp : r.payload = slot :: first :: limits) (hlen : RequestKind.loadEnvelope.legalLength r.payload.length)
    (hslot : slot.toNat = k.val) (hstate : s.envelopes[k].state = .waiting) (hroom : s.room 1) :
    exec .loadEnvelope s = .next ((s.reported .reqCommit).answered rest (refusedTo r .commitWaiting [])) := by
  rw [hp, legalLength_loadEnvelope_iff] at hlen
  refine h.exec_of_refuse hroom (why := .commitWaiting) (index := none) ?_
  simp only [RequestKind.body, loadEnvelope, hp, hlen, if_true, readSlot_eq_some hslot, State.withLink_envelopes,
    hstate]

/-- An accepted COMMIT_ENVELOPE (R41). -/
theorem State.Offers.exec_commitEnvelope (h : s.Offers .commitEnvelope r rest) (hp : r.payload = [slot])
    (hslot : slot.toNat = k.val) :
    exec .commitEnvelope s = .next ((s.withEnvelopes (s.envelopes.set k.val
      (s.envelopes[k].commit (s.ctrl.run = .running)))).answered rest (doneTo r [])) := by
  refine h.exec_of_setEnvelope fun w he hc => ?_
  simp only [RequestKind.body, commitEnvelope, hp, readSlot_eq_some hslot, he, hc, Work.modify]

/-- An accepted READ_ENVELOPE (R45). -/
theorem State.Offers.exec_readEnvelope (h : s.Offers .readEnvelope r rest) (hp : r.payload = [slot, copy, first, count])
    (hslot : slot.toNat = k.val) (hcopy : copy.toNat ≤ 1) (hcount : 1 ≤ count.toNat ∧ count.toNat ≤ 64) :
    exec .readEnvelope s = .next (s.answered rest (doneTo r ([slot, copy, s.envelopes[k].state.code, first, count] ++
      s.envelopes[k].readBytes (copy = 1) first count))) := by
  change exec (performingCommand (some .readEnvelope)) s = _
  rw [h.exec_eq]
  simp only [RequestKind.body, readEnvelope, hp, readSlot_eq_some hslot, copy_legal_iff, hcopy, hcount, and_self,
    if_true]
  rfl

end

/-- The bytes of a READ_ENVELOPE's limits (§12.3). -/
theorem EnvelopeSlot.readBytes_eq (e : EnvelopeSlot) (copy first count : Byte) :
    e.readBytes (copy = 1) first count = (List.range count.toNat).flatMap fun j =>
      leBytes 2 ((if copy.toNat = 1 then e.prepared else e.live)[
        (first.toNat + j) % 256]'(Nat.mod_lt _ (by decide))).toNat := by
  have named : copy = 1 ↔ copy.toNat = 1 := BitVec.toNat_eq
  have small : first.toNat % 256 = first.toNat := Nat.mod_eq_of_lt first.isLt
  simp only [EnvelopeSlot.readBytes, readLimits_eq, List.flatMap_map, Fin.val_ofNat, small, decide_eq_true_eq, named,
    u16]

/-- A commit by cases, as R41's table has them. -/
theorem EnvelopeSlot.commit_eq (e : EnvelopeSlot) (run : RunState) :
    e.commit (run = .running) =
      match e.state with
      | .dirty =>
        if run = .running then { e with state := .waiting }
        else { live := e.prepared, prepared := e.prepared, state := .clean }
      | .clean => e
      | .waiting => e := by
  obtain ⟨live, prepared, state⟩ := e
  cases state with
  | dirty => simp only [commit, makeLive, decide_eq_true_eq]
  | clean | waiting => rfl

/-! ### The obligations -/

/-- Settles O43: a load of at most 64 limits meets no sector twice, so each sector has the one limit that goes to it or
keeps its own. -/
theorem loadEnvelopeWrites : Obligations.LoadEnvelopeWrites := by
  intro s r rest k slot first limits ho hp hlen hslot
  refine ⟨fun hstate => ⟨_, ho.exec_loadEnvelope hp hlen hslot hstate, rfl, ?_⟩,
    fun hstate hroom => ho.exec_loadEnvelope_of_waiting hp hlen hslot hstate hroom⟩
  set loaded := s.envelopes[k].load (Fin.ofNat 256 first.toNat) (readLimitList limits) with hloaded
  have written : ((s.withEnvelopes (s.envelopes.set k.val loaded)).answered rest (doneTo r [])).envelopes =
    s.envelopes.set k.val loaded := rfl
  have self : (s.envelopes.set k.val loaded)[k] = loaded := by simp
  have few : limits.length / 2 ≤ 64 := by
    obtain ⟨m, -, hm, hn⟩ := hp ▸ hlen
    simp only [List.length_cons] at hn
    omega
  have start : (Fin.ofNat 256 first.toNat).val = first.toNat := Nat.mod_eq_of_lt first.isLt
  rw [written, self]
  refine ⟨rfl, rfl, fun j hj i hi => ?_, fun i hi => ?_, fun m hm => ?_⟩
  · have inLoad : j < (readLimitList limits).length := by rwa [readLimitList_length]
    rw [hloaded, EnvelopeSlot.load, writeLimits_getElem_of_eq _ _ _ i j inLoad
      (by rw [readLimitList_length]; omega) (by rw [start, hi]), readLimitList_getElem_toNat]
  · refine writeLimits_getElem_of_ne _ _ _ i fun j hj => ?_
    rw [start]
    exact hi j (by rwa [readLimitList_length] at hj)
  · have other : k.val ≠ m.val := fun e => hm (Fin.ext e.symm)
    simp [other]

/-- Settles O45: the copy selected, read limit by limit. -/
theorem readEnvelopeAnswers : Obligations.ReadEnvelopeAnswers := by
  intro s r rest k slot copy first count ho hp hslot hcopy hone hmost
  have answered := ho.exec_readEnvelope hp hslot hcopy ⟨hone, hmost⟩
  rw [EnvelopeSlot.readBytes_eq] at answered
  exact answered

/-- Settles O44: the refusals by length and slot, then R41's table. -/
theorem commitEnvelopeActs : Obligations.CommitEnvelopeActs := by
  intro s r rest ho
  refine ⟨fun hroom hlen => ?_, fun slot hroom hp hslot => ?_, fun k slot hp hslot => ?_⟩
  · exact ho.exec_of_refuse hroom (RequestKind.body_of_badLength hlen)
  · exact ho.exec_of_outOfRange hroom fun _ _ => commitEnvelope_outOfRange hp hslot
  · have acted := ho.exec_commitEnvelope hp hslot
    rw [EnvelopeSlot.commit_eq] at acted
    exact acted

/-- Settles O14: the state is a fixed one but for the pins, the queue of commands and the index of free values, so every
field is read off; those of a vector at each place. -/
theorem powerOnOtherBlocks : Obligations.PowerOnOtherBlocks := by
  intro s
  refine ⟨_, rfl, ?_⟩
  have slots (k : SlotId) : State.reset.envelopes[k] = .empty := by simp [State.reset]
  have zero (i : Sector) : (Vector.replicate 256 (0 : BitVec 16))[i] = 0 := by simp
  have sectors (i : Sector) : SectorTracker.fresh.sectors[i] = .clear := by simp [SectorTracker.fresh]
  have accumulators (i : Sector) : SectorTracker.fresh.accumulators[i] = .empty := by simp [SectorTracker.fresh]
  have filters (i : InputPin) : Filters.fresh.get i = .fresh := by cases i <;> rfl
  have defaults (p : ParamId) : defaultParams[p] = (paramRow p).default := by simp [defaultParams]
  have profiles (k : Fin 3) : State.reset.link.slots[k] = .free := by simp [State.reset, RecorderLink.fresh]
  refine ⟨fun k i => ?_, fun i => ⟨sectors i, accumulators i⟩, rfl, rfl, rfl, rfl, rfl, rfl, rfl, rfl, rfl, fun i => ?_,
    rfl, rfl, rfl, fun p => ⟨defaults p, defaults p⟩, rfl, rfl, rfl, rfl, rfl, rfl, rfl, rfl, rfl, profiles, rfl, rfl,
    rfl, rfl, rfl, rfl, rfl, rfl⟩
  · dsimp only
    rw [slots k]
    exact ⟨zero i, zero i, rfl⟩
  · have fresh : State.reset.filters.get i = .fresh := filters i
    dsimp only
    rw [fresh]
    exact ⟨rfl, rfl⟩

end Sys2Proof.Machine
end

section
/-! SUPPORT. What every meaning does to the envelope slots (R38). Most of the model leaves them and the run state alone;
a load and a commit replace one slot, the work of leaving RUNNING and the opening of a ring leave none WAITING, and the
run state changes only where none is. -/

namespace Sys2Proof.Machine

/-! ### One slot -/

/-- A slot is coherent with the run state: WAITING only in RUNNING, and CLEAN only with equal copies (R38). -/
def EnvelopeSlot.CoherentIn (e : EnvelopeSlot) (run : RunState) : Prop :=
  (e.state = .waiting → run = .running) ∧ (e.state = .clean → e.prepared = e.live)

namespace EnvelopeSlot.CoherentIn

variable {e : EnvelopeSlot} {run run' : RunState}

/-- Outside RUNNING no slot is WAITING, so the run state may become any other. -/
theorem of_ne_running (h : e.CoherentIn run) (hr : run ≠ .running) : e.CoherentIn run' :=
  ⟨fun hw => absurd (h.1 hw) hr, h.2⟩

/-- A slot made live is CLEAN with equal copies, whatever the run state (R38). -/
theorem makeLive : e.makeLive.CoherentIn run := ⟨nofun, fun _ => rfl⟩

/-- A slot as a ring opens or the run leaves RUNNING is not WAITING, so the run state may become any other (R42,
R43). -/
theorem settleWaiting (h : e.CoherentIn run) : e.settleWaiting.CoherentIn run' := by
  unfold EnvelopeSlot.settleWaiting
  split
  · exact makeLive
  · next hw => exact ⟨fun k => absurd k hw, h.2⟩

/-- A loaded slot is DIRTY (R40). -/
theorem load (f : Sector) (limits : List (BitVec 16)) : (e.load f limits).CoherentIn run :=
  ⟨nofun, nofun⟩

/-- A commit makes a slot WAITING in RUNNING alone (R41). -/
theorem commit (h : e.CoherentIn run) : (e.commit (run = .running)).CoherentIn run := by
  unfold EnvelopeSlot.commit
  split
  · by_cases hr : run = .running
    · rw [if_pos (decide_eq_true hr)]
      exact ⟨fun _ => hr, nofun⟩
    · rw [if_neg (by simpa using hr)]
      exact makeLive
  · exact h
  · exact h

/-- A RESET leaves each slot CLEAN with equal copies (R46). -/
theorem dropPending : e.dropPending.CoherentIn run := ⟨nofun, fun _ => rfl⟩

theorem empty : EnvelopeSlot.empty.CoherentIn run := ⟨nofun, fun _ => rfl⟩

end EnvelopeSlot.CoherentIn

namespace State.EnvelopesCoherent

variable {s t : State} {w w' : Work}

/-! ### All slots -/

/-- What touches neither a slot nor the run state keeps the slots coherent. -/
theorem of_same (h : s.EnvelopesCoherent) (he : t.envelopes = s.envelopes) (hr : t.ctrl.run = s.ctrl.run) :
    t.EnvelopesCoherent := by
  simpa only [State.EnvelopesCoherent, he, hr] using h

/-- With the slots kept the run state may change where it was not RUNNING. -/
theorem of_ne_running (h : s.EnvelopesCoherent) (hr : s.ctrl.run ≠ .running) (he : t.envelopes = s.envelopes) :
    t.EnvelopesCoherent := by
  intro k
  rw [he]
  exact EnvelopeSlot.CoherentIn.of_ne_running (h k) hr

/-- With the WAITING slots made live the run state may change. -/
theorem of_settled (h : s.EnvelopesCoherent) (he : t.envelopes = s.envelopes.map EnvelopeSlot.settleWaiting) :
    t.EnvelopesCoherent := by
  intro k
  rw [he, Fin.getElem_fin, Vector.getElem_map]
  exact EnvelopeSlot.CoherentIn.settleWaiting (h k)

/-- A coherent slot may replace any other. -/
theorem setEnvelope (h : s.EnvelopesCoherent) {k : SlotId} {e : EnvelopeSlot} (he : e.CoherentIn s.ctrl.run) :
    (s.setEnvelope k e).EnvelopesCoherent := by
  intro m
  change ((s.envelopes.set k.val e)[m]).CoherentIn s.ctrl.run
  by_cases hm : k.val = m.val
  · rw [Fin.getElem_fin, ← Fin.ext hm, Vector.getElem_set_self]
    exact he
  · rw [Fin.getElem_fin, Vector.getElem_set_ne _ _ hm]
    exact h m

theorem of_reports (h : s.EnvelopesCoherent) (k : s.Reports t) : t.EnvelopesCoherent :=
  h.of_same k.envelopes (by rw [k.ctrl])

theorem of_takes (h : s.EnvelopesCoherent) (k : s.Takes t) : t.EnvelopesCoherent :=
  h.of_same k.envelopes (by rw [k.ctrl])

theorem of_drops (h : s.EnvelopesCoherent) (k : s.Drops t) : t.EnvelopesCoherent :=
  h.of_same (by rw [k.frame]) (by rw [k.frame])

/-! ### A step under way goes on

Each lemma takes a step under way one operation further. -/

theorem modify {f : State → State} (h : w.st.EnvelopesCoherent) (he : (f w.st).envelopes = w.st.envelopes)
    (hr : (f w.st).ctrl.run = w.st.ctrl.run) : (w.modify f).st.EnvelopesCoherent :=
  h.of_same he hr

theorem ite {c : Prop} [Decidable c] (h : w.st.EnvelopesCoherent) (h' : w'.st.EnvelopesCoherent) :
    (if c then w else w').st.EnvelopesCoherent := by
  split
  · exact h
  · exact h'

theorem foldl {α : Type} {f : Work → α → Work}
    (hf : ∀ (w : Work) (x : α), w.st.EnvelopesCoherent → (f w x).st.EnvelopesCoherent) (xs : List α)
    (h : w.st.EnvelopesCoherent) : (xs.foldl f w).st.EnvelopesCoherent := by
  induction xs generalizing w with
  | nil => exact h
  | cons x xs ih => exact ih (hf w x h)

theorem queue (h : w.st.EnvelopesCoherent) (b : EventBody) : (w.queue b).st.EnvelopesCoherent :=
  h.of_reports (w.queue_reports b)

theorem raise (h : w.st.EnvelopesCoherent) (c : Cause) : (w.raise c).st.EnvelopesCoherent :=
  h.of_reports (w.raise_reports c)

theorem raiseIf (h : w.st.EnvelopesCoherent) (b : Bool) (c : Cause) : (w.raiseIf b c).st.EnvelopesCoherent :=
  h.of_reports (w.raiseIf_reports b c)

theorem queueMark (h : w.st.EnvelopesCoherent) (r : RingContext) (x : RingStatus) :
    (w.queueMark r x).st.EnvelopesCoherent :=
  h.of_reports (w.queueMark_reports r x)

theorem cancelFix (h : w.st.EnvelopesCoherent) : w.cancelFix.st.EnvelopesCoherent :=
  h.of_same (by rw [w.cancelFix_frame.1]) (by rw [w.cancelFix_frame.1])

theorem closeAll (h : w.st.EnvelopesCoherent) (why : CloseCause) (c : Int) : (w.closeAll why c).st.EnvelopesCoherent :=
  h.of_same (by rw [(w.closeAll_frame why c).1]) (by rw [(w.closeAll_frame why c).1])

theorem takeLive (h : w.st.EnvelopesCoherent) : w.takeLive.st.EnvelopesCoherent := h.of_takes w.takeLive_takes

theorem takeLiveIfWaiting (h : w.st.EnvelopesCoherent) : w.takeLiveIfWaiting.st.EnvelopesCoherent :=
  h.of_takes w.takeLiveIfWaiting_takes

theorem withFilters (h : s.EnvelopesCoherent) (x : Filters) : (s.withFilters x).EnvelopesCoherent := h.of_same rfl rfl

theorem takeRun (h : w.st.EnvelopesCoherent) : w.takeRun.st.EnvelopesCoherent := by
  unfold Work.takeRun
  exact (h.of_takes (w.take_takes ParamClass.isRun true)).withFilters _

theorem respond (h : w.st.EnvelopesCoherent) (x : Response) : (w.respond x).st.EnvelopesCoherent := h.modify rfl rfl

theorem refuse (h : w.st.EnvelopesCoherent) (r : Request) (why : Reason) (i : Option Nat) :
    (w.refuse r why i).st.EnvelopesCoherent :=
  (h.raise _).respond _

theorem finish (h : w.st.EnvelopesCoherent) (r : Request) (payload : List Byte) :
    (w.finish r payload).st.EnvelopesCoherent :=
  h.respond _

theorem setAccumulator (h : w.st.EnvelopesCoherent) (sum : Int) : (w.setAccumulator sum).st.EnvelopesCoherent :=
  .raiseIf (h.modify rfl rfl) _ _

theorem odometerUpdate (h : w.st.EnvelopesCoherent) : w.odometerUpdate.st.EnvelopesCoherent :=
  .setAccumulator (.raiseIf (h.modify rfl rfl) _ _) _

theorem placeFix (h : w.st.EnvelopesCoherent) (f : Fix) : (w.placeFix f).st.EnvelopesCoherent := by
  unfold Work.placeFix
  dsimp only
  split
  · exact .queue (h.modify rfl rfl) _
  · exact h.modify rfl rfl

theorem takeStrobe (h : w.st.EnvelopesCoherent) : w.takeStrobe.st.EnvelopesCoherent := by
  unfold Work.takeStrobe
  dsimp only
  split
  · exact (h.queue _).raise _
  · exact .ite (h.queue _) (h.placeFix _)

/-! ### The run state -/

theorem leaveRunning (h : w.st.EnvelopesCoherent) : w.leaveRunning.st.EnvelopesCoherent :=
  h.of_settled (by rw [w.leaveRunning_leaves.frame])

/-- Fault entry leaves RUNNING with no slot WAITING, and PAUSED with none there before (R43, R140). -/
theorem settle (h : w.st.EnvelopesCoherent) : w.settle.st.EnvelopesCoherent := by
  rcases w.settle_cases with ⟨same, -⟩ | ⟨c, -, -, faulted⟩
  · rw [same]
    exact h
  · have slots := faulted.envelopes
    split at slots
    · exact h.of_settled slots
    · next hr => exact h.of_ne_running hr slots

/-- What START does once the RUN class is taken: the WAITING slots are made live, should there be any (R43, R132). -/
theorem startAll (h : s.EnvelopesCoherent) (v : Int) :
    (((s.startRing.startSectors).startTravel v).startRun v).EnvelopesCoherent :=
  h.of_settled rfl

theorem startAt (h : w.st.EnvelopesCoherent) (v : Int) : (w.startAt v).st.EnvelopesCoherent := by
  unfold Work.startAt
  exact h.takeRun.startAll v

/-- PAUSE and STOP leave RUNNING with no slot WAITING, so the run state may change (R43, R134, R135, R138). -/
theorem of_leaveRunning (h : w.st.EnvelopesCoherent) (he : t.envelopes = w.leaveRunning.st.envelopes) :
    t.EnvelopesCoherent :=
  h.of_settled (by rw [he, w.leaveRunning_leaves.frame])

theorem pauseRun (h : w.st.EnvelopesCoherent) : w.pauseRun.st.EnvelopesCoherent := h.of_leaveRunning rfl

/-- What a STOP does besides leaving RUNNING touches no slot (R138). -/
theorem stopRun (h : w.st.EnvelopesCoherent) : w.stopRun.st.EnvelopesCoherent := by
  have kept : w.stopRun.st.envelopes = (if w.st.ctrl.run = .running then w.leaveRunning else w).st.envelopes := by
    change (Work.queue _ _).st.envelopes = _
    rw [(Work.queue_reports _ _).envelopes, (Work.closeAll_frame _ _ _).1]
    change (Work.cancelFix _).st.envelopes = _
    rw [(Work.cancelFix_frame _).1]
  by_cases hr : w.st.ctrl.run = .running
  · exact h.of_leaveRunning (by rw [kept, if_pos hr])
  · exact h.of_ne_running hr (by rw [kept, if_neg hr])

theorem gapClose (h : w.st.EnvelopesCoherent) : w.gapClose.st.EnvelopesCoherent := by
  unfold Work.gapClose
  split
  · exact .ite (h.closeAll _ _) h
  · exact h

theorem fixTo (h : w.st.EnvelopesCoherent) (v : Int) : (w.fixTo v).st.EnvelopesCoherent :=
  .ite (h.modify rfl rfl) (h.placeFix _)

theorem afterLiveWrite (h : w.st.EnvelopesCoherent) : w.afterLiveWrite.st.EnvelopesCoherent :=
  .ite (h.modify rfl rfl) h.takeLive

/-! ### Rings -/

theorem makeReady (h : s.EnvelopesCoherent) (r : RingContext) (x : Summary) : (s.makeReady r x).EnvelopesCoherent := by
  unfold State.makeReady
  split
  · split
    · exact h.of_same rfl rfl
    · exact h
  · exact h

theorem deliver (h : s.EnvelopesCoherent) (r : RingContext) (x : Solved) : (s.deliver r x).EnvelopesCoherent := by
  unfold State.deliver
  dsimp only
  split <;> exact h.of_same rfl rfl

theorem takeSample (h : s.EnvelopesCoherent) (raw : Nat) (x : Sample) : (s.takeSample raw x).EnvelopesCoherent := by
  unfold State.takeSample
  split
  · next r _ =>
    have counted (a : Assembler) : (s.withRing { s.ring with asm := a }).EnvelopesCoherent := h.of_same rfl rfl
    dsimp only
    split
    · exact (counted _).deliver _ _
    · exact counted _
  · exact h

theorem takeSamples (h : s.EnvelopesCoherent) (a0 step j : Nat) (xs : List Sample) :
    (s.takeSamples a0 step j xs).EnvelopesCoherent := by
  induction xs generalizing s j with
  | nil => exact h
  | cons x xs ih => exact ih (h.takeSample _ x) _

theorem addMissing (h : s.EnvelopesCoherent) (gap : Nat) : (s.addMissing gap).EnvelopesCoherent := by
  unfold State.addMissing
  split
  · exact h.of_same rfl rfl
  · exact h

theorem applyFix (h : w.st.EnvelopesCoherent) : w.applyFix.st.EnvelopesCoherent := by
  unfold Work.applyFix
  split
  · exact h
  · exact .queue (.modify (.setAccumulator (h.modify rfl rfl) _) rfl rfl) _

theorem selectSegment (h : w.st.EnvelopesCoherent) : w.selectSegment.st.EnvelopesCoherent :=
  .raiseIf (h.modify rfl rfl) _ _

theorem claimProfile (h : w.st.EnvelopesCoherent) (n d : Nat) : (w.claimProfile n d).1.st.EnvelopesCoherent := by
  unfold Work.claimProfile
  split
  · split
    · exact h.modify rfl rfl
    · exact .raise (h.modify rfl rfl) _
  · exact h

theorem openingSteps (h : w.st.EnvelopesCoherent) : w.openingSteps.1.st.EnvelopesCoherent :=
  .claimProfile (.selectSegment (.raiseIf (.applyFix (.takeLiveIfWaiting (h.modify rfl rfl))) _ _)) _ _

/-- The opening of a ring makes the WAITING slots live (R42). -/
theorem openRing (h : w.st.EnvelopesCoherent) : w.openRing.st.EnvelopesCoherent := h.openingSteps.of_settled rfl

theorem evaluate (h : w.st.EnvelopesCoherent) (r : RingContext) : (w.evaluate r).st.EnvelopesCoherent :=
  .foldl (fun w e h => h.of_reports (w.emit_reports e)) _ (h.modify rfl rfl)

theorem closeAccepted (h : w.st.EnvelopesCoherent) (r : RingContext) : (w.closeAccepted r).st.EnvelopesCoherent := by
  have ready : ((w.evaluate r).modify fun s => s.makeReady r (w.st.summary r.slot)).st.EnvelopesCoherent :=
    (h.evaluate r).makeReady r _
  exact .modify (ready.queueMark _ _) rfl rfl

theorem closeDiscarded (h : w.st.EnvelopesCoherent) (r : RingContext) (tooLong : Bool) :
    (w.closeDiscarded r tooLong).st.EnvelopesCoherent := by
  have dropped : (w.modify fun s => s.dropProfile r).st.EnvelopesCoherent := h.of_drops (State.dropProfile_drops _ r)
  exact .raiseIf (.modify (.raise (.queueMark dropped _ _) _) rfl rfl) _ _

theorem closeRing (h : w.st.EnvelopesCoherent) (r : RingContext) : (w.closeRing r).st.EnvelopesCoherent := by
  unfold Work.closeRing
  refine .modify ?_ rfl rfl
  split
  · exact h.closeAccepted r
  · exact h.closeDiscarded r false
  · exact h.closeDiscarded r true
  · exact h

theorem ringStart (h : w.st.EnvelopesCoherent) : w.ringStart.st.EnvelopesCoherent := by
  unfold Work.ringStart
  split
  · exact h
  · exact h.openRing
  · exact .ite (h.closeRing _).settle.openRing (h.closeRing _).settle

/-! ### The head link -/

theorem checkGap (h : w.st.EnvelopesCoherent) (seq : Byte) : (w.checkGap seq).st.EnvelopesCoherent := by
  have counted : (w.st.withHead { w.st.head with badRun := 0, lastSeq := some seq }).EnvelopesCoherent :=
    h.of_same rfl rfl
  exact .raiseIf (counted.addMissing _) _ _

theorem handOver (h : w.st.EnvelopesCoherent) (f : HeadFrame) : (w.handOver f).st.EnvelopesCoherent := by
  cases f with
  | sampleRun a0 step samples => exact h.takeSamples _ _ _ _
  | ringStart _ => exact h.ringStart
  | headStatus bytes => exact .ite (h.queue _) h

theorem goodFrame (h : w.st.EnvelopesCoherent) (seq : Byte) (f : HeadFrame) :
    (w.goodFrame seq f).st.EnvelopesCoherent := by
  unfold Work.goodFrame
  split
  · exact h.modify rfl rfl
  · exact (h.checkGap seq).settle.handOver f

theorem countBad (h : w.st.EnvelopesCoherent) : w.countBad.st.EnvelopesCoherent :=
  .ite (h.modify rfl rfl) (.raise (h.modify rfl rfl) _)

theorem badFrame (h : w.st.EnvelopesCoherent) : w.badFrame.st.EnvelopesCoherent := by
  unfold Work.badFrame
  split
  · exact h.modify rfl rfl
  · exact (h.raise _).settle.countBad

theorem setHeadPart (h : w.st.EnvelopesCoherent) (f : Option (List Byte)) : (w.setHeadPart f).st.EnvelopesCoherent :=
  h.modify rfl rfl

theorem judgeHead (h : w.st.EnvelopesCoherent) (frame : List Byte) : (w.judgeHead frame).st.EnvelopesCoherent := by
  unfold Work.judgeHead
  refine .settle ?_
  split
  · exact h.goodFrame _ _
  · exact h.badFrame

theorem headSymbol (h : w.st.EnvelopesCoherent) (x : Symbol) : (w.headSymbol x).st.EnvelopesCoherent := by
  unfold Work.headSymbol
  split
  · exact h.setHeadPart _
  · exact h
  · exact .ite ((h.setHeadPart none).judgeHead _) (h.setHeadPart _)
  · exact (h.setHeadPart _).badFrame.settle
  · exact (h.setHeadPart _).badFrame.settle
  · exact h

theorem receiveHead (h : w.st.EnvelopesCoherent) (x : Symbol) : (w.receiveHead x).st.EnvelopesCoherent :=
  .ite (.headSymbol (h.modify rfl rfl) x) (h.modify rfl rfl)

/-! ### The recorder link -/

theorem takeIn (h : w.st.EnvelopesCoherent) (r : Request) : (w.takeIn r).st.EnvelopesCoherent :=
  .ite (h.modify rfl rfl) (.ite h (.ite ((h.respond _).raise _) (h.raise _)))

theorem judgeFrame (h : w.st.EnvelopesCoherent) (xs : List Symbol) : (w.judgeFrame xs).st.EnvelopesCoherent := by
  unfold Work.judgeFrame
  refine .settle ?_
  split
  · exact h.takeIn _
  · exact h.raise _

theorem setPartFrame (h : w.st.EnvelopesCoherent) (f : Option (List Symbol)) :
    (w.setPartFrame f).st.EnvelopesCoherent :=
  h.modify rfl rfl

theorem receiveUp (h : w.st.EnvelopesCoherent) (x : Symbol) : (w.receiveUp x).st.EnvelopesCoherent := by
  unfold Work.receiveUp
  split
  · exact h.setPartFrame _
  · exact h
  · exact (h.setPartFrame _).judgeFrame _
  · exact (h.setPartFrame _).judgeFrame _
  · exact h.setPartFrame _

theorem goDown (h : w.st.EnvelopesCoherent) (sync : SymbolLock) : (w.goDown sync).st.EnvelopesCoherent :=
  .settle (.raiseIf (h.modify rfl rfl) _ _)

theorem receive (h : w.st.EnvelopesCoherent) (x : Symbol) : (w.receive x).st.EnvelopesCoherent :=
  .ite (h.goDown _) (.ite (.receiveUp (h.modify rfl rfl) x) (h.modify rfl rfl))

theorem choose (h : s.EnvelopesCoherent) : s.choose.EnvelopesCoherent := by
  unfold State.choose
  split
  · exact h.of_same rfl rfl
  · exact h

theorem segmentSent (h : s.EnvelopesCoherent) (k : Fin 3) : (s.segmentSent k).EnvelopesCoherent := by
  unfold State.segmentSent
  split
  · split <;> exact h.of_same rfl rfl
  · exact h

theorem transmitted (h : s.EnvelopesCoherent) : s.transmitted.EnvelopesCoherent := by
  unfold State.transmitted
  split
  · exact h
  · have freed : (s.withLink { s.link with tx := none }).EnvelopesCoherent := h.of_same rfl rfl
    dsimp only
    split
    · exact h.of_same rfl rfl
    · exact h.of_same rfl rfl
    · exact freed.segmentSent _

/-! ### Inputs -/

theorem acceptLevel (h : s.EnvelopesCoherent) (i : InputPin) (v : Level) : (s.acceptLevel i v).EnvelopesCoherent := by
  unfold State.acceptLevel
  split
  · exact h
  · exact h.of_same rfl rfl

theorem pressMark (h : s.EnvelopesCoherent) : s.pressMark.EnvelopesCoherent := by
  unfold State.pressMark
  split
  · split
    · exact h.of_same rfl rfl
    · exact h
  · exact h

/-! ### Resets -/

/-- A power-on reset leaves every slot empty (R46). -/
theorem powerOn (pins : Pins) (freeIndex : Nat) (pending : List Instr) :
    ({ State.reset with pins := pins, freeIndex := freeIndex, pending := pending } : State).EnvelopesCoherent := by
  intro k
  change ((Vector.replicate 8 EnvelopeSlot.empty)[k]).CoherentIn .idle
  rw [Fin.getElem_fin, Vector.getElem_replicate]
  exact EnvelopeSlot.CoherentIn.empty

theorem afterReset (s : State) : s.afterReset.EnvelopesCoherent := by
  intro k
  change ((s.envelopes.map EnvelopeSlot.dropPending)[k]).CoherentIn .idle
  rw [Fin.getElem_fin, Vector.getElem_map]
  exact EnvelopeSlot.CoherentIn.dropPending

/-! ### Requests -/

theorem start (h : w.st.EnvelopesCoherent) (r : Request) : (start r w).st.EnvelopesCoherent := by
  unfold Machine.start
  split
  · refine .ite (h.refuse _ _ _) (.ite (h.refuse _ _ _) ?_)
    split
    · exact h.refuse _ _ _
    · exact (h.startAt _).finish _ _
  · exact h.refuse _ _ _

/-- RESUME goes on from PAUSED, where no slot is WAITING (R136, R137). -/
theorem resume (h : w.st.EnvelopesCoherent) (r : Request) : (resume r w).st.EnvelopesCoherent := by
  unfold Machine.resume
  refine .ite ?_ (h.refuse _ _ _)
  split
  · next hr =>
    have paused : w.st.ctrl.run ≠ .running := by simp [hr]
    have kept : w.gapClose.st.envelopes = w.st.envelopes := by
      unfold Work.gapClose
      split
      · split
        · rw [(Work.closeAll_frame _ _ _).1]
        · rfl
      · rfl
    have resumed : (w.gapClose.modify State.resumeRun).st.EnvelopesCoherent := h.of_ne_running paused kept
    exact .ite (resumed.finish _ _) (h.refuse _ _ _)
  · exact h.refuse _ _ _

/-- CLEAR_FAULT leaves FAULT, where no slot is WAITING (R143). -/
theorem clearFault (h : w.st.EnvelopesCoherent) (r : Request) : (clearFault r w).st.EnvelopesCoherent := by
  unfold Machine.clearFault
  refine .ite ?_ (h.refuse _ _ _)
  split
  · next hr =>
    have inFault : w.st.ctrl.run ≠ .running := by simp [hr]
    have cleared :
        (w.modify fun s => s.withCtrl { s.ctrl with run := .idle, faultRecord := none }).st.EnvelopesCoherent :=
      h.of_ne_running inFault rfl
    exact cleared.finish _ _
  · exact h.refuse _ _ _

theorem fixChainage (h : w.st.EnvelopesCoherent) (r : Request) : (fixChainage r w).st.EnvelopesCoherent := by
  unfold Machine.fixChainage
  split
  · exact .ite (h.refuse _ _ _) ((h.fixTo _).finish _ _)
  · exact h.refuse _ _ _

theorem setParam (h : w.st.EnvelopesCoherent) (r : Request) : (setParam r w).st.EnvelopesCoherent := by
  unfold Machine.setParam
  split
  · split
    · exact .finish (.ite (.afterLiveWrite (h.modify rfl rfl)) (h.modify rfl rfl)) _ _
    · exact h.refuse _ _ _
  · exact h.refuse _ _ _

theorem getParam (h : w.st.EnvelopesCoherent) (r : Request) : (getParam r w).st.EnvelopesCoherent := by
  unfold Machine.getParam
  split
  · split
    · exact h.finish _ _
    · exact h.refuse _ _ _
  · exact h.refuse _ _ _

/-- A step under way that replaces a slot by a coherent one. -/
theorem modify_setEnvelope (h : w.st.EnvelopesCoherent) {k : SlotId} {f : State → EnvelopeSlot}
    (he : (f w.st).CoherentIn w.st.ctrl.run) : (w.modify fun s => s.setEnvelope k (f s)).st.EnvelopesCoherent :=
  h.setEnvelope he

theorem loadEnvelope (h : w.st.EnvelopesCoherent) (r : Request) : (loadEnvelope r w).st.EnvelopesCoherent := by
  unfold Machine.loadEnvelope
  split
  · refine .ite ?_ (h.refuse _ _ _)
    split
    · exact .ite (h.refuse _ _ _) (.finish (h.modify_setEnvelope (EnvelopeSlot.CoherentIn.load _ _)) _ _)
    · exact h.refuse _ _ _
  · exact h.refuse _ _ _

theorem commitEnvelope (h : w.st.EnvelopesCoherent) (r : Request) : (commitEnvelope r w).st.EnvelopesCoherent := by
  unfold Machine.commitEnvelope
  split
  · split
    · next k _ => exact .finish (h.modify_setEnvelope (EnvelopeSlot.CoherentIn.commit (h k))) _ _
    · exact h.refuse _ _ _
  · exact h.refuse _ _ _

theorem readEnvelope (h : w.st.EnvelopesCoherent) (r : Request) : (readEnvelope r w).st.EnvelopesCoherent := by
  unfold Machine.readEnvelope
  split
  · split
    · exact .ite (h.finish _ _) (h.refuse _ _ _)
    · exact h.refuse _ _ _
  · exact h.refuse _ _ _

theorem loadRoute (h : w.st.EnvelopesCoherent) (r : Request) : (loadRoute r w).st.EnvelopesCoherent := by
  unfold Machine.loadRoute
  split
  · refine .ite (.ite (.ite ?_ (h.refuse _ _ _)) (h.refuse _ _ _)) (h.refuse _ _ _)
    split
    · exact h.refuse _ _ _
    · exact .finish (h.modify rfl rfl) _ _
  · exact h.refuse _ _ _

theorem trimRoute (h : w.st.EnvelopesCoherent) (r : Request) : (trimRoute r w).st.EnvelopesCoherent := by
  unfold Machine.trimRoute
  split
  · exact .ite (.ite (.finish (h.modify rfl rfl) _ _) (h.refuse _ _ _)) (h.refuse _ _ _)
  · exact h.refuse _ _ _

theorem readRoute (h : w.st.EnvelopesCoherent) (r : Request) : (readRoute r w).st.EnvelopesCoherent := by
  unfold Machine.readRoute
  split
  · exact .ite (h.finish _ _) (h.refuse _ _ _)
  · exact h.refuse _ _ _

/-- The performing of every kind of request. -/
theorem body (h : w.st.EnvelopesCoherent) (k : RequestKind) (r : Request) : (k.body r w).st.EnvelopesCoherent := by
  cases k with
  | identify | readStatus | readIntrusions => exact .ite (h.finish _ _) (h.refuse _ _ _)
  | clearCauses => exact .ite (.finish (h.modify rfl rfl) _ _) (h.refuse _ _ _)
  | setParam => exact h.setParam r
  | getParam => exact h.getParam r
  | loadEnvelope => exact h.loadEnvelope r
  | commitEnvelope => exact h.commitEnvelope r
  | readEnvelope => exact h.readEnvelope r
  | loadRoute => exact h.loadRoute r
  | trimRoute => exact h.trimRoute r
  | readRoute => exact h.readRoute r
  | start => exact h.start r
  | pause => exact .ite (.ite (h.pauseRun.finish _ _) (h.refuse _ _ _)) (h.refuse _ _ _)
  | resume => exact h.resume r
  | stop => exact .ite (.ite (h.stopRun.finish _ _) (h.refuse _ _ _)) (h.refuse _ _ _)
  | clearFault => exact h.clearFault r
  | fixChainage => exact h.fixChainage r
  | headPass => exact .ite (h.modify rfl rfl) (h.refuse _ _ _)
  | reset => exact .ite (.modify (h.finish _ _) rfl rfl) (h.refuse _ _ _)

end State.EnvelopesCoherent

/-! ### Commands -/

/-- The next state a command answers, if it answers one, has coherent slots. -/
def AnswersCoherent (x : Result) : Prop := ∀ t, x = .next t → t.EnvelopesCoherent

namespace AnswersCoherent

variable {s t : State} {w : Work}

theorem next (h : t.EnvelopesCoherent) : AnswersCoherent (.next t) := by
  rintro _ ⟨⟩
  exact h

theorem done (h : w.st.EnvelopesCoherent) : AnswersCoherent w.done := next h.settle

theorem ite {c : Prop} [Decidable c] {x y : Result} (hx : AnswersCoherent x) (hy : AnswersCoherent y) :
    AnswersCoherent (if c then x else y) := by
  split
  · exact hx
  · exact hy

/-- A request row keeps the slots coherent if its performing does (R167). -/
theorem perform {serves : Option RequestKind → Bool} {body : Request → Work → Work}
    (hbody : ∀ (r : Request) (w : Work), w.st.EnvelopesCoherent → (body r w).st.EnvelopesCoherent)
    (h : s.EnvelopesCoherent) : AnswersCoherent (perform serves body s) := by
  unfold Machine.perform
  split
  · exact done (hbody _ _ (h.of_same rfl rfl))
  · exact next h

/-- The command of a request kind. -/
theorem request (k : RequestKind) (h : s.EnvelopesCoherent) :
    AnswersCoherent (exec (performingCommand (some k)) s) := by
  rw [exec_performingCommand]
  exact perform (fun r _ hw => hw.body k r) h

theorem headSymbols (xs : List Symbol) (h : s.EnvelopesCoherent) :
    AnswersCoherent (xs.foldl Work.receiveHead (Work.of s)).done :=
  done (.foldl (fun _ x hw => hw.receiveHead x) xs h)

theorem upstreamSymbols (xs : List Symbol) (h : s.EnvelopesCoherent) :
    AnswersCoherent (xs.foldl Work.receive (Work.of s)).done :=
  done (.foldl (fun _ x hw => hw.receive x) xs h)

theorem headStall (h : s.EnvelopesCoherent) : AnswersCoherent (execHeadStall s) :=
  .ite (.done (.raise (State.EnvelopesCoherent.modify h rfl rfl) _)) (.next h)

theorem wheelDecode (h : s.EnvelopesCoherent) (w : Wheel) (a b : Level) :
    AnswersCoherent (execWheelDecode w a b s) := by
  have accepted : (Work.of ((s.acceptLevel (wheelPinA w) a).acceptLevel (wheelPinB w) b)).st.EnvelopesCoherent :=
    (h.acceptLevel _ _).acceptLevel _ _
  exact .done (.raiseIf (accepted.modify rfl rfl) _ _)

theorem tagStrobe (h : s.EnvelopesCoherent) : AnswersCoherent (execTagStrobe s) := by
  have accepted : (Work.of (s.acceptLevel .tagStb .high)).st.EnvelopesCoherent := h.acceptLevel _ _
  exact .ite (.done accepted.takeStrobe) (.done accepted)

theorem headPassDone (h : s.EnvelopesCoherent) : AnswersCoherent (execHeadPassDone s) := by
  unfold execHeadPassDone
  split
  · exact .done (.respond (State.EnvelopesCoherent.modify h rfl rfl) _)
  · exact .next h

/-- Every command keeps the slots coherent. -/
theorem of_exec (c : Instr) (h : s.EnvelopesCoherent) : AnswersCoherent (exec c s) := by
  have hw : (Work.of s).st.EnvelopesCoherent := h
  cases c with
  | headFrameGood xs => exact headSymbols xs h
  | headFrameBad xs => exact headSymbols xs h
  | headStall => exact headStall h
  | odometerUpdate => exact done hw.odometerUpdate
  | wheelDecode w a b => exact wheelDecode h w a b
  | tagStrobe => exact tagStrobe h
  | markPress => exact next (h.acceptLevel _ _).pressMark
  | requestFrame xs => exact upstreamSymbols xs h
  | unknownKind => exact perform (fun r _ hw => hw.refuse r _ _) h
  | identify => exact request .identify h
  | readStatus => exact request .readStatus h
  | clearCauses => exact request .clearCauses h
  | setParam => exact request .setParam h
  | getParam => exact request .getParam h
  | loadEnvelope => exact request .loadEnvelope h
  | commitEnvelope => exact request .commitEnvelope h
  | readEnvelope => exact request .readEnvelope h
  | loadRoute => exact request .loadRoute h
  | trimRoute => exact request .trimRoute h
  | readRoute => exact request .readRoute h
  | start => exact request .start h
  | pause => exact request .pause h
  | resume => exact request .resume h
  | stop => exact request .stop h
  | clearFault => exact request .clearFault h
  | fixChainage => exact request .fixChainage h
  | readIntrusions => exact request .readIntrusions h
  | headPass => exact request .headPass h
  | headPassDone => exact headPassDone h
  | reset => exact request .reset h
  | resetTakesEffect => exact ite (next (.afterReset s)) (next h)
  | powerOnReset => exact next (.powerOn _ _ _)
  | arbiterChoose => exact next h.choose
  | frameTransmitted => exact ite (next (.afterReset s)) (next h.transmitted)
  | recorderLinkUp => exact ite (next h) (upstreamSymbols _ h)
  | recorderLinkDown xs => exact ite (upstreamSymbols xs h) (next h)
  | headSymbolLock => exact ite (next h) (headSymbols _ h)
  | headSymbolLockLost xs => exact ite (headSymbols xs h) (next h)
  | inputLevelChange pin level => exact next (h.of_same rfl rfl)
  | filteredFallingEdge input => exact next (h.acceptLevel _ _)

end AnswersCoherent

/-! ### A tick -/

namespace State.EnvelopesCoherent

variable {s : State}

theorem after (h : s.EnvelopesCoherent) (c : Instr) : (s.after c).EnvelopesCoherent := by
  unfold State.after
  split
  · next t ht => exact AnswersCoherent.of_exec c h t ht
  · exact h
  · exact h

theorem afterIf (h : s.EnvelopesCoherent) (b : Bool) (c : Instr) : (s.afterIf b c).EnvelopesCoherent := by
  unfold State.afterIf
  split
  · exact h.after c
  · exact h

theorem sampleInput (h : s.EnvelopesCoherent) (i : InputPin) : (s.sampleInput i).EnvelopesCoherent := h.of_same rfl rfl

theorem tickWheel (h : s.EnvelopesCoherent) (w : Wheel) : (s.tickWheel w).EnvelopesCoherent := h.afterIf _ _

theorem tickEdge (h : s.EnvelopesCoherent) (e : EdgeInput) (rise : Instr) : (s.tickEdge e rise).EnvelopesCoherent :=
  h.afterIf _ _

theorem tickInputs (h : s.EnvelopesCoherent) : s.tickInputs.EnvelopesCoherent := by
  have sampled := (((((h.sampleInput .whlA).sampleInput .whlB).sampleInput .whrA).sampleInput .whrB).sampleInput
    .tagStb).sampleInput .markKey
  exact (((sampled.tickWheel _).tickWheel _).tickEdge _ _).tickEdge _ _

theorem withClock (h : s.EnvelopesCoherent) (x : Clock) : (s.withClock x).EnvelopesCoherent := h.of_same rfl rfl

theorem withLink (h : s.EnvelopesCoherent) (x : RecorderLink) : (s.withLink x).EnvelopesCoherent := h.of_same rfl rfl

theorem tickClock (h : s.EnvelopesCoherent) : s.tickClock.EnvelopesCoherent := (h.withClock _).afterIf _ _

theorem tickStall (h : s.EnvelopesCoherent) : s.tickStall.EnvelopesCoherent := h.afterIf _ _

theorem tickHeadPass (h : s.EnvelopesCoherent) : s.tickHeadPass.EnvelopesCoherent := by
  unfold State.tickHeadPass
  split
  · exact (h.withLink _).afterIf _ _
  · exact h

theorem tickTransmit (h : s.EnvelopesCoherent) : s.tickTransmit.EnvelopesCoherent := by
  unfold State.tickTransmit
  split
  · dsimp only
    split
    · exact (h.withLink _).after _
    · exact h.withLink _
  · exact h

theorem tickAgent (h : s.EnvelopesCoherent) : s.tickAgent.EnvelopesCoherent := by
  unfold State.tickAgent
  split
  · exact h.after _
  · exact h

theorem tick (h : s.EnvelopesCoherent) : s.tick.EnvelopesCoherent :=
  h.tickClock.tickInputs.tickStall.tickHeadPass.tickTransmit.tickAgent.after _

end State.EnvelopesCoherent

/-- Settles O9: a step is one meaning or the meanings of one microsecond, and each keeps the slots coherent. The run
state leaves RUNNING only with the WAITING slots made live, which is what `State.EnvelopesCoherent.settle` and
`of_leaveRunning` say. -/
theorem envelopesCoherentKept : Obligations.EnvelopesCoherentKept := by
  intro s t hs h
  unfold step at h
  split at h
  · rw [← Host.Outcome.next.inj h]
    exact hs.tick
  · next c rest _ =>
    have popped : (s.withPending rest).EnvelopesCoherent := hs.of_same rfl rfl
    exact AnswersCoherent.of_exec c popped t h

end Sys2Proof.Machine
end

section
/-! SUPPORT. The discrete inputs: what putting a level at a pin and accepting it change (R87, R117), and a decoder move
(R89). -/

namespace Sys2Proof.Machine

/-! ### Pins and filters -/

theorem Pins.get_put (p : Pins) (i j : InputPin) (v : Level) : (p.put i v).get j = if j = i then v else p.get j := by
  cases i <;> cases j <;> rfl

theorem Filters.get_put (f : Filters) (i j : InputPin) (x : Filter) :
    (f.put i x).get j = if j = i then x else f.get j := by
  cases i <;> cases j <;> rfl

@[simp] theorem Pins.get_put_same (p : Pins) (i : InputPin) (v : Level) : (p.put i v).get i = v := by
  rw [Pins.get_put, if_pos rfl]

@[simp] theorem Filters.get_put_same (f : Filters) (i : InputPin) (x : Filter) : (f.put i x).get i = x := by
  rw [Filters.get_put, if_pos rfl]

theorem Pins.get_put_of_ne (p : Pins) {i j : InputPin} (h : j ≠ i) (v : Level) : (p.put i v).get j = p.get j := by
  rw [Pins.get_put, if_neg h]

theorem Filters.get_put_of_ne (f : Filters) {i j : InputPin} (h : j ≠ i) (x : Filter) :
    (f.put i x).get j = f.get j := by
  rw [Filters.get_put, if_neg h]

/-! ### Accepted levels -/

section
variable (s : State) {i j : InputPin} {v : Level}

theorem State.acceptLevel_of_eq (h : s.acceptedLevel i = v) : s.acceptLevel i v = s := if_pos h

theorem State.acceptLevel_of_ne (h : s.acceptedLevel i ≠ v) :
    s.acceptLevel i v = (s.withPins (s.pins.put i v)).withFilters (s.filters.put i (.take v)) := if_neg h

/-- Accepting a level changes pins and filters alone. -/
theorem State.acceptLevel_frame (i : InputPin) (v : Level) :
    s.acceptLevel i v = { s with pins := (s.acceptLevel i v).pins, filters := (s.acceptLevel i v).filters } := by
  unfold State.acceptLevel
  split <;> rfl

@[simp] theorem State.acceptedLevel_acceptLevel_same (i : InputPin) (v : Level) :
    (s.acceptLevel i v).acceptedLevel i = v := by
  by_cases h : s.acceptedLevel i = v
  · rw [s.acceptLevel_of_eq h, h]
  · rw [s.acceptLevel_of_ne h]
    simp [State.acceptedLevel, Filter.take]

theorem State.acceptedLevel_acceptLevel_of_ne (h : j ≠ i) (v : Level) :
    (s.acceptLevel i v).acceptedLevel j = s.acceptedLevel j := by
  unfold State.acceptLevel
  split
  · rfl
  · simp [State.acceptedLevel, Pins.get_put_of_ne _ h, Filters.get_put_of_ne _ h]

variable (i : InputPin) (v : Level)

@[simp] theorem State.acceptLevel_odo : (s.acceptLevel i v).odo = s.odo := by rw [State.acceptLevel_frame]
@[simp] theorem State.acceptLevel_route : (s.acceptLevel i v).route = s.route := by rw [State.acceptLevel_frame]
@[simp] theorem State.acceptLevel_params : (s.acceptLevel i v).params = s.params := by rw [State.acceptLevel_frame]
@[simp] theorem State.acceptLevel_link : (s.acceptLevel i v).link = s.link := by rw [State.acceptLevel_frame]

end

/-- Settles O31: `State.acceptLevel` at low leaves a low input alone and puts a high one low; a level change is
`Pins.put`. -/
theorem inputEdges : Obligations.InputEdges := by
  intro s
  refine ⟨fun e => ⟨by cases e <;> rfl, fun low => ?_, fun high => ?_⟩, fun i v => ?_⟩
  · exact congrArg Host.Outcome.next (s.acceptLevel_of_eq low)
  · have fell : s.acceptedLevel (edgePin e) ≠ .low := by rw [high]; decide
    refine ⟨_, congrArg Host.Outcome.next (s.acceptLevel_of_ne fell), Pins.get_put_same _ _ _,
      Filters.get_put_same _ _ _, rfl, fun j hj => ⟨Pins.get_put_of_ne _ hj _, Filters.get_put_of_ne _ hj _⟩⟩
  · exact ⟨_, rfl, Pins.get_put_same _ _ _, rfl, fun j hj => Pins.get_put_of_ne _ hj _⟩

/-! ### Decoder moves -/

theorem moveOf_forward : ∀ p : Fin 4, moveOf p (p + 1) = .forward := by decide
theorem moveOf_back : ∀ p : Fin 4, moveOf (p + 1) p = .back := by decide
theorem moveOf_none : ∀ p : Fin 4, moveOf p p = .none := by decide
theorem moveOf_double : ∀ p : Fin 4, moveOf p (p + 2) = .double := by decide

theorem wheelPinA_ne_wheelPinB (w : Wheel) : wheelPinA w ≠ wheelPinB w := by cases w <;> decide

theorem Odometer.addCount_zero (o : Odometer) (w : Wheel) : o.addCount w 0 = o := by
  cases w <;> simp [Odometer.addCount]

/-- The state once a wheel's filters have accepted the levels of a sample. -/
def State.acceptWheel (s : State) (w : Wheel) (a b : Level) : State :=
  (s.acceptLevel (wheelPinA w) a).acceptLevel (wheelPinB w) b

theorem State.acceptWheel_frame (s : State) (w : Wheel) (a b : Level) :
    s.acceptWheel w a b =
      { s with pins := (s.acceptWheel w a b).pins, filters := (s.acceptWheel w a b).filters } := by
  have atA := s.acceptLevel_frame (wheelPinA w) a
  have atB := (s.acceptLevel (wheelPinA w) a).acceptLevel_frame (wheelPinB w) b
  rw [State.acceptWheel]
  generalize s.acceptLevel (wheelPinA w) a = t at atA atB ⊢
  rw [atB, atA]

/-- A move of less than two positions counts and raises nothing. -/
theorem exec_wheelDecode_of_move {s : State} {w : Wheel} {a b : Level} {m : Move} (h : s.wheelMove w a b = m)
    (hm : m ≠ .double) :
    exec (.wheelDecode w a b) s = .next ((s.acceptWheel w a b).withOdo (s.odo.addCount w m.count)) := by
  change execWheelDecode w a b s = _
  simp [execWheelDecode, h, hm, Work.of_eq, State.acceptWheel]

/-- A move of two positions counts nothing and raises ODO_GLITCH. -/
theorem exec_wheelDecode_of_double {s : State} {w : Wheel} {a b : Level} (h : s.wheelMove w a b = .double)
    (hroom : s.room 1) :
    exec (.wheelDecode w a b) s = .next ((s.acceptWheel w a b).reported .odoGlitch) := by
  have room : (s.acceptWheel w a b).room 1 := by
    rw [State.acceptWheel_frame]
    exact hroom
  change execWheelDecode w a b s = _
  unfold execWheelDecode
  simp only [h, Move.count, Odometer.addCount_zero, Work.of_eq, Work.modify_mk, decide_true, Work.raiseIf_true]
  exact congrArg Work.done (Work.raise_mk (by decide) room)

/-- Settles O27: `moveOf` at each distance, then what the command does by its move. -/
theorem wheelDecode : Obligations.WheelDecode := by
  intro s w a b held before after
  have moved : s.wheelMove w a b = moveOf before after := rfl
  refine ⟨rfl, rfl, rfl, rfl, by cases w <;> rfl, by cases w <;> rfl, fun _ => rfl, ?_,
    State.acceptedLevel_acceptLevel_same _ _ _, s.acceptWheel_frame w a b, fun h => ?_, fun h => ?_, fun h => ?_,
    fun h hroom => ?_⟩
  · exact (State.acceptedLevel_acceptLevel_of_ne _ (wheelPinA_ne_wheelPinB w) b).trans
      (s.acceptedLevel_acceptLevel_same _ a)
  · rw [h, moveOf_forward] at moved
    rw [exec_wheelDecode_of_move moved (by decide)]
    cases w <;> rfl
  · rw [h, moveOf_back] at moved
    rw [exec_wheelDecode_of_move moved (by decide)]
    cases w <;> rfl
  · rw [h, moveOf_none] at moved
    rw [exec_wheelDecode_of_move moved (by decide), Move.count, Odometer.addCount_zero, State.acceptWheel_frame]
    exact congrArg Host.Outcome.next (s.acceptWheel_frame w a b).symm
  · rw [h, moveOf_double] at moved
    exact exec_wheelDecode_of_double moved hroom

end Sys2Proof.Machine
end

section
/-! SUPPORT. The nearest REFERENCE of a strobe (R119), fixes placed by a strobe or by FIX_CHAINAGE (R97, R118, R121,
R123), and CLEAR_FAULT (R143). -/

namespace Sys2Proof.Machine

/-! ### The nearest REFERENCE -/

/-- Every REFERENCE but entry `k` lies farther from `cc` than `c`, or as far and after entry `k` (R119). -/
def NearestAt (table : List RouteEntry) (cc : Int) (k : Nat) (c : Int) : Prop :=
  ∀ (j : Nat) (c' : Int) (l' : Nat), table[j]? = some (.reference c' l') → j ≠ k →
    distance c cc < distance c' cc ∨ (distance c cc = distance c' cc ∧ k < j)

theorem NearestAt.tail {e : RouteEntry} {table : List RouteEntry} {cc c : Int} {k : Nat}
    (h : NearestAt (e :: table) cc (k + 1) c) : NearestAt table cc k c := by
  intro j c' l' hj hne
  have := h (j + 1) c' l' hj (by omega)
  omega

/-- A candidate in hand is kept while none of the entries to come is nearer. -/
theorem nearestFrom_eq_best {table : List RouteEntry} {cc : Int} {window : Nat} {m : Match}
    (far : ∀ c' l', .reference c' l' ∈ table → distance m.chainage cc ≤ distance c' cc) (i : Nat) :
    nearestFrom cc window i (some m) table = some m := by
  induction table generalizing i with
  | nil => rfl
  | cons e rest ih =>
    have later := ih fun c' l' h => far c' l' (List.mem_cons_of_mem e h)
    cases e with
    | segment start slot margin => exact later (i + 1)
    | reference r l =>
      have notNearer : ¬ distance r cc < distance m.chainage cc := not_lt.2 (far r l List.mem_cons_self)
      simp [nearestFrom, notNearer, later]

/-- The scan of a table finds its nearest REFERENCE, if that is nearer than the candidate in hand. -/
theorem nearestFrom_eq {table : List RouteEntry} {cc c : Int} {window label k : Nat}
    (here : table[k]? = some (.reference c label)) (within : distance c cc ≤ window) (near : NearestAt table cc k c)
    (i : Nat) {best : Option Match} (hbest : ∀ b, best = some b → distance c cc < distance b.chainage cc) :
    nearestFrom cc window i best table = some { index := i + k, chainage := c, label := label } := by
  induction table generalizing i k best with
  | nil => cases here
  | cons e rest ih =>
    cases k with
    | zero =>
      obtain rfl : e = .reference c label := Option.some.inj here
      have far : ∀ c' l', .reference c' l' ∈ rest → distance c cc ≤ distance c' cc := by
        intro c' l' hmem
        obtain ⟨j, hj⟩ := List.getElem?_of_mem hmem
        have := near (j + 1) c' l' hj (by omega)
        omega
      have kept := nearestFrom_eq_best (window := window) (m := { index := i, chainage := c, label := label }) far
      cases best with
      | none => simp [nearestFrom, within, kept]
      | some b => simp [nearestFrom, within, hbest b rfl, kept]
    | succ k =>
      have go {best : Option Match} (hbest : ∀ b, best = some b → distance c cc < distance b.chainage cc) :
          nearestFrom cc window (i + 1) best rest = some { index := i + (k + 1), chainage := c, label := label } := by
        rw [ih here near.tail (i + 1) hbest, show i + 1 + k = i + (k + 1) by omega]
      cases e with
      | segment start slot margin => exact go hbest
      | reference r l =>
        have farther := near 0 r l rfl (by omega)
        refine go fun b hb => ?_
        rcases ite_eq_iff.1 hb with ⟨_, replaced⟩ | ⟨_, kept⟩
        · rw [← Option.some.inj replaced]
          exact farther.resolve_right fun h => absurd h.2 (by omega)
        · exact hbest b kept

theorem nearest_eq {table : List RouteEntry} {cc c : Int} {window label k : Nat}
    (here : table[k]? = some (.reference c label)) (within : distance c cc ≤ window) (near : NearestAt table cc k c) :
    nearest table cc window = some { index := k, chainage := c, label := label } := by
  rw [nearest, nearestFrom_eq here within near 0 (by simp), Nat.zero_add]

/-! ### Placing a fix -/

section
variable {s : State} {x : Option Cause}

/-- The state with a fix pending in place of the one before. -/
def State.withFix (s : State) (f : Fix) : State := s.withOdo { s.odo with pendingFix := some f }

theorem Work.placeFix_of_none (h : s.odo.pendingFix = none) (f : Fix) :
    (Work.mk s x).placeFix f = { st := s.withFix f, fatal := x } := by
  simp only [Work.placeFix, h, Work.modify_mk]
  rfl

/-- A fix that another replaces is recorded SUPERSEDED (R97, R123). -/
theorem Work.placeFix_of_some {old : Fix} (h : s.odo.pendingFix = some old) (hroom : s.room 1) (f : Fix) :
    (Work.mk s x).placeFix f =
      { st := (s.withFix f).recorded (.fix (old.record .superseded none)), fatal := x } := by
  have room : (s.withFix f).room 1 := hroom
  simp only [Work.placeFix, h, Work.modify_mk]
  exact Work.queue_mk _ room

/-- A strobe whose nearest REFERENCE is neither the pending fix's nor the last applied one places a fix. -/
theorem Work.takeStrobe_of_nearest {m : Match}
    (hm : nearest s.route.entries s.chainage (s.effNat Param.matchWindow) = some m)
    (hpending : s.odo.pendingFix.bind Fix.tagIndex ≠ some m.index) (happlied : s.route.lastApplied ≠ some m.index) :
    (Work.mk s x).takeStrobe = (Work.mk s x).placeFix
      { offset := m.chainage - s.chainage, origin := .tag m.index m.label, capture := s.chainage } := by
  have fresh : ¬ (s.odo.pendingFix.bind Fix.tagIndex = some m.index ∨ s.route.lastApplied = some m.index) :=
    not_or.2 ⟨hpending, happlied⟩
  simp only [Work.takeStrobe, hm, if_neg fresh]

end

/-- A strobe in RUNNING or PAUSED is taken with the input's level high (R118). -/
theorem exec_tagStrobe {s : State} (h : s.ctrl.run = .running ∨ s.ctrl.run = .paused) :
    exec .tagStrobe s = (Work.mk (s.acceptLevel .tagStb .high) none).takeStrobe.done := if_pos h

theorem State.acceptLevel_chainage (s : State) (i : InputPin) (v : Level) :
    (s.acceptLevel i v).chainage = s.chainage := by
  rw [State.chainage, State.acceptLevel_odo, State.chainage]

theorem Fix.tagIndex_ne {f : Fix} {i : Nat} (h : ∀ l, f.origin ≠ .tag i l) : f.tagIndex ≠ some i := by
  intro hf
  unfold Fix.tagIndex at hf
  split at hf
  · next j l e => exact h l (Option.some.inj hf ▸ e)
  · cases hf

/-- Settles O28: `nearest_eq` finds the entry, and what placing the fix does is `Work.placeFix_of_none` and
`Work.placeFix_of_some`. -/
theorem tagStrobePlacesFix : Obligations.TagStrobePlacesFix := by
  intro s i c label hrun here within near happlied hroom held fix
  have odo : held.odo = s.odo := s.acceptLevel_odo _ _
  have placed (hpending : s.odo.pendingFix.bind Fix.tagIndex ≠ some i) :
      exec .tagStrobe s = ((Work.mk held none).placeFix fix).done := by
    have found : nearest held.route.entries held.chainage (held.effNat Param.matchWindow) =
        some { index := i, chainage := c, label := label } := by
      rw [State.acceptLevel_chainage, State.acceptLevel_route, State.effNat, State.eff, State.acceptLevel_params]
      exact nearest_eq here within near
    rw [exec_tagStrobe hrun, Work.takeStrobe_of_nearest found (by rw [odo]; exact hpending)
      (by rw [State.acceptLevel_route]; exact happlied), State.acceptLevel_chainage]
  have fixed : held.withFix fix = held.withOdo { s.odo with pendingFix := some fix } := by rw [State.withFix, odo]
  constructor
  · intro hnone
    rw [placed (by simp [hnone]), Work.placeFix_of_none (by rw [odo, hnone]), Work.done_mk, fixed]
  · intro old hold hother
    have room : held.room 1 := by
      rw [State.room, State.acceptLevel_link]
      exact hroom
    rw [placed (by simpa [hold] using Fix.tagIndex_ne hother),
      Work.placeFix_of_some (by rw [odo, hold]) room, Work.done_mk, fixed]
    obtain ⟨offset, origin, capture⟩ := old
    cases origin with
    | tag | manual => rfl

/-! ### CLEAR_FAULT and FIX_CHAINAGE -/

section
variable {s : State} {r : Request} {rest : List Request}

/-- An accepted CLEAR_FAULT (R143). -/
theorem State.Offers.exec_clearFault (h : s.Offers .clearFault r rest) (hp : r.payload = [])
    (hrun : s.ctrl.run = .fault) :
    exec .clearFault s =
      .next ((s.withCtrl { s.ctrl with run := .idle, faultRecord := none }).answered rest (doneTo r [])) := by
  change exec (performingCommand (some .clearFault)) s = _
  rw [h.exec_eq]
  simp only [RequestKind.body, clearFault, hp, if_true, State.withLink_ctrl, hrun]
  rfl

variable {v0 v1 v2 v3 : Byte}

/-- An accepted FIX_CHAINAGE (R121). -/
theorem State.Offers.exec_fixChainage (h : s.Offers .fixChainage r rest) (hp : r.payload = [v0, v1, v2, v3])
    (hrun : s.ctrl.run ≠ .fault) :
    exec .fixChainage s = (((Work.mk (s.withLink { s.link with requests := rest }) none).fixTo
      (readSigned [v0, v1, v2, v3])).finish r []).done := by
  change exec (performingCommand (some .fixChainage)) s = _
  rw [h.exec_eq]
  simp only [RequestKind.body, fixChainage, hp, State.withLink_ctrl, hrun, if_false]

theorem Work.fixTo_of_idle {w : Work} (h : w.st.ctrl.run = .idle) (v : Int) :
    w.fixTo v = w.modify fun s => s.withOdo (s.odo.setTo v) := if_pos h

theorem Work.fixTo_of_ne_idle {w : Work} (h : w.st.ctrl.run ≠ .idle) (v : Int) :
    w.fixTo v = w.placeFix { offset := v - w.st.chainage, origin := .manual, capture := w.st.chainage } := if_neg h

end

/-- Settles O54: `Work.fixTo` by run state, then `Work.placeFix` by the pending fix. -/
theorem clearFaultAndFixChainage : Obligations.ClearFaultAndFixChainage := by
  refine ⟨fun s r rest ho hp hrun => ho.exec_clearFault hp hrun, ?_⟩
  intro s r rest v0 v1 v2 v3 ho hp v fix
  let taken := s.withLink { s.link with requests := rest }
  have placed (hrun : s.ctrl.run = .running ∨ s.ctrl.run = .paused) :
      exec .fixChainage s = (((Work.mk taken none).placeFix fix).finish r []).done := by
    have notIdle : s.ctrl.run ≠ .idle := by rcases hrun with h | h <;> rw [h] <;> decide
    have notFault : s.ctrl.run ≠ .fault := by rcases hrun with h | h <;> rw [h] <;> decide
    rw [ho.exec_fixChainage hp notFault, Work.fixTo_of_ne_idle notIdle]
    rfl
  refine ⟨fun hidle => ?_, fun hrun hnone => ?_, fun old hrun hold hroom => ?_⟩
  · rw [ho.exec_fixChainage hp (by rw [hidle]; decide), Work.fixTo_of_idle hidle]
    rfl
  · have pending : taken.odo.pendingFix = none := hnone
    rw [placed hrun, Work.placeFix_of_none pending]
    rfl
  · have pending : taken.odo.pendingFix = some old := hold
    have room : taken.room 1 := hroom
    rw [placed hrun, Work.placeFix_of_some pending room]
    obtain ⟨offset, origin, capture⟩ := old
    cases origin with
    | tag | manual => rfl

end Sys2Proof.Machine
end

section
/-! SUPPORT. The odometer update (R90 to R95), and what a fatal cause, which only the loss of a notice can bring, makes
of it (R99, R142). -/

namespace Sys2Proof.Machine

/-! ### Reports and the Odometer -/

theorem State.Reports.withOdo {s t : State} (h : s.Reports t) (o : Odometer) : (s.withOdo o).Reports (t.withOdo o) := by
  refine ⟨?_, h.bound, h.flags⟩
  conv_lhs => rw [h.frame]
  rfl

/-- A report reads the chainage, but nothing else of the Odometer. -/
theorem State.withOdo_reported {s : State} {o : Odometer} (h : o.accumulator = s.odo.accumulator) (c : Cause) :
    (s.withOdo o).reported c = (s.reported c).withOdo o := by
  have chainage : (s.withOdo o).chainage = s.chainage := congrArg (· / Config.unitsPerMm) h
  have reports : (s.withOdo o).reports c.cls = s.reports c.cls := rfl
  simp only [State.reported, State.withOdo_causes, chainage, reports]
  split_ifs <;> rfl

theorem Work.raiseIf_mk {s : State} {x : Option Cause} {b : Bool} {c : Cause} (hc : c.cls ≠ .fatal) (h : s.room 1) :
    (Work.mk s x).raiseIf b c = { st := if b then s.reported c else s, fatal := x } := by
  cases b with
  | false => rfl
  | true => exact Work.raise_mk hc h

/-! ### What taking a fatal cause leaves -/

section
variable (w : Work)

theorem Work.settle_flags {c : Cause} (h : flagSet w.st.causes c = true) : flagSet w.settle.st.causes c = true := by
  rcases w.settle_cases with ⟨same, -⟩ | ⟨_, -, -, entered⟩
  · rw [same]
    exact h
  · exact entered.flags c h

/-- Fault entry cancels the pending fix, and alone changes the run state (R99, R140). -/
theorem Work.settle_odo :
    w.settle.st.odo =
      { w.st.odo with
        pendingFix := if w.settle.st.ctrl.run = w.st.ctrl.run then w.st.odo.pendingFix else none } := by
  rcases w.settle_cases with ⟨same, -⟩ | ⟨_, -, active, entered⟩
  · rw [same, if_pos rfl]
  · have ended : w.settle.st.ctrl.run ≠ w.st.ctrl.run := by
      rw [entered.ctrl]
      change RunState.fault ≠ _
      rcases active with h | h <;> rw [h] <;> decide
    rw [if_neg ended, entered.odo]

theorem Work.settle_frame :
    w.settle.st = { w.st with
      ring := w.settle.st.ring, params := w.settle.st.params, envelopes := w.settle.st.envelopes
      tracker := w.settle.st.tracker, odo := w.settle.st.odo, ctrl := w.settle.st.ctrl
      link := w.settle.st.link, causes := w.settle.st.causes } := by
  rcases w.settle_cases with ⟨same, -⟩ | ⟨_, -, -, entered⟩
  · rw [same]
  · rw [entered.frame]

end

/-! ### The advance -/

theorem wheelChange_eq (sign count : Int) : wheelChange sign count = (if sign = 1 then -1 else 1) * count := by
  unfold wheelChange
  split <;> ring

theorem abs_sub_eq_distance (a b : Int) : |a - b| = (distance a b : Int) := Int.abs_eq_natAbs _

/-- The advance of R92 with its differences as absolute values. -/
theorem advance_fst (mode k tolerance dL dR : Int) :
    (advance mode k tolerance dL dR).1 =
      if mode = 1 then 2 * dL * k
      else if mode = 2 then 2 * dR * k
      else if |dL - dR| ≤ tolerance then (dL + dR) * k
      else if |dL| ≤ |dR| then 2 * dL * k
      else 2 * dR * k := by
  have sizes : |dL| ≤ |dR| ↔ dL.natAbs ≤ dR.natAbs := by rw [Int.abs_eq_natAbs, Int.abs_eq_natAbs, Int.ofNat_le]
  simp only [advance, apply_ite Prod.fst, abs_sub_eq_distance, sizes]

/-- The slip rows are the last two of R92. -/
theorem advance_snd (mode k tolerance dL dR : Int) :
    (advance mode k tolerance dL dR).2 = true ↔ (mode ≠ 1 ∧ mode ≠ 2) ∧ tolerance < |dL - dR| := by
  rw [abs_sub_eq_distance, ← not_le]
  simp only [advance, apply_ite Prod.snd, ite_self]
  by_cases left : mode = 1
  · simp [left]
  · by_cases right : mode = 2
    · simp [right]
    · simp [left, right]

theorem clamp_eq_max_min {lo hi : Int} (h : lo ≤ hi) (x : Int) : clamp lo hi x = max lo (min hi x) := by
  unfold clamp
  split_ifs <;> omega

section
variable (s : State)

/-- The advance of an update and whether it is a slip row (R90, R92). -/
def State.advance : Int × Bool :=
  Machine.advance (s.eff Param.wheelMode) (s.eff Param.wheelConstant) (s.eff Param.slipTolerance)
    (wheelChange (s.eff Param.forwardSign) s.odo.left) (wheelChange (s.eff Param.forwardSign) s.odo.right)

/-- The sum an update puts into the accumulator (R93). -/
def State.advancedSum : Int := s.odo.accumulator + s.advance.1

/-- Whether that sum lies outside the accumulator's range (R93). -/
def State.overruns : Bool := s.advancedSum < Config.accumulatorMin ∨ Config.accumulatorMax < s.advancedSum

/-- The counts read and the direction set (R92, R94), before the advance is added. -/
def State.odoTurned : Odometer :=
  { s.odo with left := 0, right := 0, direction := directionAfter s.odo.direction s.advance.1 }

/-- The Odometer after an update (R92 to R94). -/
def State.odoUpdated : Odometer :=
  { s.odoTurned with accumulator := clamp Config.accumulatorMin Config.accumulatorMax s.advancedSum }

theorem State.overruns_iff :
    s.overruns = true ↔ s.advancedSum < -2 ^ 48 ∨ 2 ^ 48 - 1 < s.advancedSum := by
  have low : Config.accumulatorMin = -2 ^ 48 := by decide
  have high : Config.accumulatorMax = 2 ^ 48 - 1 := by decide
  rw [State.overruns, decide_eq_true_iff, low, high]

theorem State.odoUpdated_accumulator :
    s.odoUpdated.accumulator = max (-2 ^ 48) (min (2 ^ 48 - 1) s.advancedSum) :=
  clamp_eq_max_min (by decide) _

/-- An update up to the adding of the advance, for an event queue with room. -/
def State.moved : State := (if s.advance.2 then s.reported .odoSlip else s).withOdo s.odoUpdated

/-- An update up to the raising of ODO_SLIP, which comes before the advance is added (log entry 17). -/
def State.turned : Work := (Work.mk (s.withOdo s.odoTurned) none).raiseIf s.advance.2 .odoSlip

theorem State.turned_reports : (s.withOdo s.odoTurned).Reports s.turned.st :=
  Work.raiseIf_reports (Work.mk (s.withOdo s.odoTurned) none) s.advance.2 .odoSlip

/-- The advance is added to what the raising of ODO_SLIP left, and CHAINAGE_LIMIT is raised after it (log entry 17). -/
theorem Work.odometerUpdate_eq :
    (Work.of s).odometerUpdate =
      (s.turned.modify fun u => u.withOdo s.odoUpdated).raiseIf s.overruns .chainageLimit := by
  have odo : s.turned.st.odo = s.odoTurned := s.turned_reports.odo
  rw [State.odoUpdated, ← odo]
  rfl

end

/-! ### What an update leaves -/

section
variable (s : State)

/-- Besides the Odometer, an update changes the event queue and the cause set alone. -/
theorem Work.odometerUpdate_reports : (s.withOdo s.odoUpdated).Reports (Work.of s).odometerUpdate.st := by
  rw [Work.odometerUpdate_eq]
  exact (s.turned_reports.withOdo s.odoUpdated).trans
    (Work.raiseIf_reports (s.turned.modify fun u => u.withOdo s.odoUpdated) _ _)

theorem Work.odometerUpdate_odo : (Work.of s).odometerUpdate.st.odo = s.odoUpdated := (odometerUpdate_reports s).odo

variable {s}

theorem Work.odometerUpdate_flag_odoSlip (h : s.advance.2 = true) :
    flagSet (Work.of s).odometerUpdate.st.causes .odoSlip = true := by
  rw [Work.odometerUpdate_eq]
  refine (Work.raiseIf_reports _ _ _).flags .odoSlip ?_
  rw [Work.modify_st, State.withOdo_causes, State.turned, h]
  exact Work.raise_flag _ _

theorem Work.odometerUpdate_flag_chainageLimit (h : s.overruns = true) :
    flagSet (Work.of s).odometerUpdate.st.causes .chainageLimit = true := by
  rw [Work.odometerUpdate_eq, h]
  exact Work.raise_flag _ _

/-- With nothing to raise, an update changes the Odometer alone. -/
theorem Work.odometerUpdate_of_quiet (hslip : s.advance.2 = false) (hrange : s.overruns = false) :
    (Work.of s).odometerUpdate = { st := s.withOdo s.odoUpdated, fatal := none } := by
  rw [Work.odometerUpdate_eq, State.turned, hslip, hrange]
  rfl

/-- An update for an event queue with room for both notices: neither is lost, so no fatal cause comes of them. -/
theorem Work.odometerUpdate_of_room (h : s.room 2) :
    (Work.of s).odometerUpdate =
      { st := if s.overruns then s.moved.reported .chainageLimit else s.moved, fatal := none } := by
  have room : (s.withOdo s.odoTurned).room 1 := State.room_mono (s := s) h (by decide)
  have turned : s.turned.modify (fun u => u.withOdo s.odoUpdated) = { st := s.moved, fatal := none } := by
    rw [State.turned, Work.raiseIf_mk (by decide) room, State.withOdo_reported (o := s.odoTurned) rfl,
      Work.modify_mk, State.moved]
    split <;> rfl
  have roomMoved : s.moved.room 1 := by
    unfold State.moved
    split
    · exact State.reported_room s .odoSlip h
    · exact State.room_mono (s := s) h (by decide)
  rw [Work.odometerUpdate_eq, turned, Work.raiseIf_mk (by decide) roomMoved]

end

theorem State.chainage_bounds (s : State) :
    s.chainage * 131072 ≤ s.odo.accumulator ∧ s.odo.accumulator < (s.chainage + 1) * 131072 := by
  unfold State.chainage Config.unitsPerMm
  omega

/-- Settles O26: the update as `Work.odometerUpdate_reports` has it, then what `Work.settle` leaves of it; with nothing
lost, `Work.odometerUpdate_of_quiet` and `Work.odometerUpdate_of_room` give the whole state. -/
theorem odometerUpdate : Obligations.OdometerUpdate := by
  intro s
  refine ⟨_, Work.done_eq (Work.of s).odometerUpdate, ?_⟩
  intro sign dL dR k both slips adv sum
  have advanced : s.advance.1 = adv := by
    rw [State.advance, wheelChange_eq, wheelChange_eq, advance_fst]
  have slip : s.advance.2 = true ↔ slips := by
    rw [State.advance, wheelChange_eq, wheelChange_eq, advance_snd]
  have summed : s.advancedSum = sum := congrArg (s.odo.accumulator + ·) advanced
  have outside : s.overruns = true ↔ sum < -2 ^ 48 ∨ 2 ^ 48 - 1 < sum := by rw [s.overruns_iff, summed]
  have odo := (Work.of s).odometerUpdate.settle_odo
  rw [Work.odometerUpdate_odo, (Work.odometerUpdate_reports s).ctrl] at odo
  have updated := (Work.odometerUpdate_reports s).frame
  refine ⟨by rw [odo]; rfl, by rw [odo]; rfl, by rw [odo]; rfl, ?_, ?_, ?_, ?_, by rw [odo]; rfl, ?_, ?_,
    s.chainage_bounds, ?_⟩
  · rw [odo, ← summed]
    exact s.odoUpdated_accumulator
  · rw [odo, ← advanced]
    rfl
  · exact fun h => Work.settle_flags _ (Work.odometerUpdate_flag_odoSlip (slip.2 h))
  · exact fun h => Work.settle_flags _ (Work.odometerUpdate_flag_chainageLimit (outside.2 h))
  · intro noSlip low high
    have hslip : s.advance.2 = false := Bool.eq_false_iff.2 fun h => noSlip (slip.1 h)
    have hrange : s.overruns = false := Bool.eq_false_iff.2 fun h => (outside.1 h).elim (not_lt.2 low) (not_lt.2 high)
    rw [Work.odometerUpdate_of_quiet hslip hrange]
    rfl
  · intro room
    have whole : (Work.of s).odometerUpdate.settle.st =
        if s.overruns then s.moved.reported .chainageLimit else s.moved := by
      rw [Work.odometerUpdate_of_room room, Work.settle_mk]
    have odoWhole : (Work.of s).odometerUpdate.settle.st.odo = s.odoUpdated := by
      rw [whole, apply_ite State.odo, State.reported_odo, ite_self, State.moved, State.withOdo_odo]
    intro moved
    have named : moved = s.moved := by
      change State.withOdo (if slips then _ else s) _ = _
      rw [odoWhole, State.moved]
      exact congrArg (State.withOdo · s.odoUpdated) (if_congr slip.symm rfl rfl)
    rw [named, whole]
    exact if_congr outside rfl rfl
  · refine (Work.settle_frame _).trans ?_
    rw [updated]
    rfl

end Sys2Proof.Machine
end

section
/-! SUPPORT. What every step keeps, from what every command keeps: a step is one command, or the commands and the counts of
one microsecond (log entries 3 and 4). -/

namespace Sys2Proof.Machine

/-- If a command answers a next state, `P` holds of it. -/
def Answers (P : State → Prop) (x : Result) : Prop := ∀ t, x = .next t → P t

theorem Answers.next {P : State → Prop} {t : State} (h : P t) : Answers P (.next t) := by
  rintro _ ⟨⟩
  exact h

theorem Answers.ite {P : State → Prop} {c : Prop} [Decidable c] {x y : Result} (hx : Answers P x) (hy : Answers P y) :
    Answers P (if c then x else y) := by
  split
  · exact hx
  · exact hy

/-- `P` is kept by every command and by what a step changes besides its commands: the queue of commands, the time base, the
filters' samples, the cycles of a HEAD_PASS and the symbols sent of a frame. -/
structure StepClosed (P : State → Prop) : Prop where
  command : ∀ {s : State} (c : Instr), P s → Answers P (exec c s)
  popped : ∀ {s : State} (rest : List Instr), P s → P (s.withPending rest)
  clock : ∀ {s : State} (x : Clock), P s → P (s.withClock x)
  filters : ∀ {s : State} (x : Filters), P s → P (s.withFilters x)
  cycles : ∀ {s : State} {tag : Byte} {bytes : List Byte} {m : Nat} (n : Nat), s.link.agent = .headPass tag bytes m →
    P s → P (s.withAgent (.headPass tag bytes n))
  sent : ∀ {s : State} (x : Option Transmission), P s → P (s.withLink { s.link with tx := x })

namespace StepClosed

variable {P : State → Prop} {s : State} (hP : StepClosed P)
include hP

theorem after (h : P s) (c : Instr) : P (s.after c) := by
  unfold State.after
  split
  · next t ht => exact hP.command c h t ht
  · exact h
  · exact h

theorem afterIf (h : P s) (b : Bool) (c : Instr) : P (s.afterIf b c) := by
  unfold State.afterIf
  split
  · exact hP.after h c
  · exact h

theorem sampleInput (h : P s) (i : InputPin) : P (s.sampleInput i) := hP.filters _ h

theorem tickWheel (h : P s) (w : Wheel) : P (s.tickWheel w) := hP.afterIf h _ _

theorem tickEdge (h : P s) (e : EdgeInput) (rise : Instr) : P (s.tickEdge e rise) := hP.afterIf h _ _

theorem tickInputs (h : P s) : P s.tickInputs := by
  have wheels := hP.sampleInput (hP.sampleInput (hP.sampleInput (hP.sampleInput h .whlA) .whlB) .whrA) .whrB
  have sampled := hP.sampleInput (hP.sampleInput wheels .tagStb) .markKey
  exact hP.tickEdge (hP.tickEdge (hP.tickWheel (hP.tickWheel sampled _) _) _ _) _ _

theorem tickClock (h : P s) : P s.tickClock := hP.afterIf (hP.clock _ h) _ _

theorem tickStall (h : P s) : P s.tickStall := hP.afterIf h _ _

theorem tickHeadPass (h : P s) : P s.tickHeadPass := by
  unfold State.tickHeadPass
  split
  · next sending => exact hP.afterIf (hP.cycles _ sending h) _ _
  · exact h

theorem tickTransmit (h : P s) : P s.tickTransmit := by
  unfold State.tickTransmit
  split
  · dsimp only
    split
    · exact hP.after (hP.sent _ h) _
    · exact hP.sent _ h
  · exact h

theorem tickAgent (h : P s) : P s.tickAgent := by
  unfold State.tickAgent
  split
  · exact hP.after h _
  · exact h

theorem tick (h : P s) : P s.tick :=
  hP.after (hP.tickAgent (hP.tickTransmit (hP.tickHeadPass (hP.tickStall (hP.tickInputs (hP.tickClock h)))))) _

theorem step {t : State} (h : P s) (ht : Machine.step s = .next t) : P t := by
  unfold Machine.step at ht
  split at ht
  · exact Host.Outcome.next.inj ht ▸ hP.tick h
  · exact hP.command _ (hP.popped _ h) t ht

end StepClosed

end Sys2Proof.Machine
end

section
/-! SUPPORT. What every meaning does to the queues (R106, R153, R158, R166). Most of the model leaves the requests, the
responses and the route table alone and queues event records where there is room; a request performed has a response place
free until it is answered. -/

namespace Sys2Proof.Machine

/-- The queues are within their capacities, and `n` response places are free. -/
def State.Fits (s : State) (n : Nat) : Prop :=
  s.WithinCapacity ∧ s.link.placesTaken + n ≤ Config.maxResponses

/-- What the requests, the Management Agent and the route table hold. -/
def State.queues (s : State) : List Request × List Response × Agent × List RouteEntry :=
  (s.link.requests, s.link.responses, s.link.agent, s.route.entries)

namespace State.Fits

variable {s t : State} {w w' : Work} {n : Nat}

/-! ### What leaves the queues of requests and responses alone -/

/-- With the other queues kept, the event queue may grow to its capacity and the adjusted list within its own. -/
theorem of_queues (h : s.Fits n) (hq : t.queues = s.queues)
    (he : t.link.events.length ≤ max s.link.events.length Config.maxEvents)
    (ha : s.params.adjustedIds.length ≤ Config.maxAdjusted → t.params.adjustedIds.length ≤ Config.maxAdjusted) :
    t.Fits n := by
  obtain ⟨⟨events, requests, places, adjusted, route⟩, free⟩ := h
  simp only [State.queues, Prod.mk.injEq] at hq
  obtain ⟨sameRequests, sameResponses, sameAgent, sameRoute⟩ := hq
  have samePlaces : t.link.placesTaken = s.link.placesTaken := by
    rw [RecorderLink.placesTaken, RecorderLink.placesTaken, sameResponses, sameAgent]
  exact ⟨⟨he.trans (max_le events le_rfl), sameRequests ▸ requests, samePlaces ▸ places, ha adjusted,
    sameRoute ▸ route⟩, samePlaces ▸ free⟩

/-- What touches no queue at all. -/
theorem of_same (h : s.Fits n)
    (hq : (t.queues, t.link.events, t.params.adjustedIds) = (s.queues, s.link.events, s.params.adjustedIds)) :
    t.Fits n := by
  simp only [Prod.mk.injEq] at hq
  obtain ⟨queues, events, adjusted⟩ := hq
  exact h.of_queues queues (events ▸ le_max_left _ _) fun k => adjusted ▸ k

theorem of_reports (h : s.Fits n) (k : s.Reports t) : t.Fits n :=
  h.of_queues (by rw [k.frame]; rfl) k.bound fun ha => k.params ▸ ha

theorem of_drops (h : s.Fits n) (k : s.Drops t) : t.Fits n :=
  h.of_queues (by rw [k.frame]; rfl) k.bound fun ha => by rwa [k.frame]

theorem of_takes (h : s.Fits n) (k : s.Takes t)
    (ha : s.params.adjustedIds.length ≤ Config.maxAdjusted → t.params.adjustedIds.length ≤ Config.maxAdjusted) :
    t.Fits n :=
  h.of_queues (by rw [k.frame]; rfl) k.bound ha

theorem modify {f : State → State} (h : w.st.Fits n)
    (hq : ((f w.st).queues, (f w.st).link.events, (f w.st).params.adjustedIds) =
      (w.st.queues, w.st.link.events, w.st.params.adjustedIds)) : (w.modify f).st.Fits n :=
  h.of_same hq

theorem ite {c : Prop} [Decidable c] (h : w.st.Fits n) (h' : w'.st.Fits n) : (if c then w else w').st.Fits n := by
  split
  · exact h
  · exact h'

theorem foldl {α : Type} {f : Work → α → Work} (hf : ∀ (w : Work) (x : α), w.st.Fits n → (f w x).st.Fits n)
    (xs : List α) (h : w.st.Fits n) : (xs.foldl f w).st.Fits n := by
  induction xs generalizing w with
  | nil => exact h
  | cons x xs ih => exact ih (hf w x h)

theorem queue (h : w.st.Fits n) (b : EventBody) : (w.queue b).st.Fits n := h.of_reports (w.queue_reports b)

theorem raise (h : w.st.Fits n) (c : Cause) : (w.raise c).st.Fits n := h.of_reports (w.raise_reports c)

theorem raiseIf (h : w.st.Fits n) (b : Bool) (c : Cause) : (w.raiseIf b c).st.Fits n :=
  h.of_reports (w.raiseIf_reports b c)

theorem queueMark (h : w.st.Fits n) (r : RingContext) (x : RingStatus) : (w.queueMark r x).st.Fits n :=
  h.of_reports (w.queueMark_reports r x)

theorem cancelFix (h : w.st.Fits n) : w.cancelFix.st.Fits n := by
  obtain ⟨frame, bound, -⟩ := w.cancelFix_frame
  exact h.of_queues (by rw [frame]; rfl) bound fun ha => by rwa [frame]

theorem closeAll (h : w.st.Fits n) (why : CloseCause) (c : Int) : (w.closeAll why c).st.Fits n := by
  obtain ⟨frame, bound, -⟩ := w.closeAll_frame why c
  exact h.of_queues (by rw [frame]; rfl) bound fun ha => by rwa [frame]

theorem takeLive (h : w.st.Fits n) : w.takeLive.st.Fits n := h.of_takes w.takeLive_takes w.takeLive_liveFrom.bound

theorem takeLiveIfWaiting (h : w.st.Fits n) : w.takeLiveIfWaiting.st.Fits n :=
  h.of_takes w.takeLiveIfWaiting_takes w.takeLiveIfWaiting_liveFrom.bound

theorem withFilters (h : s.Fits n) (x : Filters) : (s.withFilters x).Fits n := h.of_same rfl

theorem takeRun (h : w.st.Fits n) : w.takeRun.st.Fits n := by
  have taken : (w.take ParamClass.isRun true).st.Fits n :=
    h.of_takes (w.take_takes _ _) fun _ => (w.take_params _ _).2.2
  exact taken.withFilters _

theorem setAccumulator (h : w.st.Fits n) (sum : Int) : (w.setAccumulator sum).st.Fits n := .raiseIf (h.modify rfl) _ _

theorem odometerUpdate (h : w.st.Fits n) : w.odometerUpdate.st.Fits n :=
  .setAccumulator (.raiseIf (h.modify rfl) _ _) _

theorem placeFix (h : w.st.Fits n) (f : Fix) : (w.placeFix f).st.Fits n := by
  unfold Work.placeFix
  dsimp only
  split
  · exact .queue (h.modify rfl) _
  · exact h.modify rfl

theorem takeStrobe (h : w.st.Fits n) : w.takeStrobe.st.Fits n := by
  unfold Work.takeStrobe
  dsimp only
  split
  · exact (h.queue _).raise _
  · exact .ite (h.queue _) (h.placeFix _)

theorem leaveRunning (h : w.st.Fits n) : w.leaveRunning.st.Fits n := by
  have l := w.leaveRunning_leaves
  exact h.of_queues (by rw [l.frame]; rfl) l.bound l.params.bound

theorem settle (h : w.st.Fits n) : w.settle.st.Fits n := by
  rcases w.settle_cases with ⟨same, -⟩ | ⟨c, -, -, f⟩
  · rw [same]
    exact h
  · exact h.of_queues (by rw [f.frame]; rfl) f.bound f.params.bound

/-! ### Run control -/

/-- What START does once the RUN class is taken (R132). -/
theorem startAll (h : s.Fits n) (v : Int) : (((s.startRing.startSectors).startTravel v).startRun v).Fits n :=
  h.of_same rfl

theorem startAt (h : w.st.Fits n) (v : Int) : (w.startAt v).st.Fits n := h.takeRun.startAll v

theorem pauseRun (h : w.st.Fits n) : w.pauseRun.st.Fits n := h.leaveRunning.modify rfl

theorem stopRun (h : w.st.Fits n) : w.stopRun.st.Fits n :=
  .modify (.queue (.closeAll (.cancelFix (.ite h.leaveRunning h)) _ _) _) rfl

theorem gapClose (h : w.st.Fits n) : w.gapClose.st.Fits n := by
  unfold Work.gapClose
  split
  · exact .ite (h.closeAll _ _) h
  · exact h

theorem fixTo (h : w.st.Fits n) (v : Int) : (w.fixTo v).st.Fits n := .ite (h.modify rfl) (h.placeFix _)

theorem afterLiveWrite (h : w.st.Fits n) : w.afterLiveWrite.st.Fits n := .ite (h.modify rfl) h.takeLive

/-! ### Rings -/

theorem makeReady (h : s.Fits n) (r : RingContext) (x : Summary) : (s.makeReady r x).Fits n := by
  unfold State.makeReady
  split
  · split
    · exact h.of_same rfl
    · exact h
  · exact h

theorem takeSample (h : s.Fits n) (raw : Nat) (x : Sample) : (s.takeSample raw x).Fits n := by
  unfold State.takeSample State.deliver
  split
  · dsimp only
    split
    · split <;> exact h.of_same rfl
    · exact h.of_same rfl
  · exact h

theorem takeSamples (h : s.Fits n) (a0 step j : Nat) (xs : List Sample) : (s.takeSamples a0 step j xs).Fits n := by
  induction xs generalizing s j with
  | nil => exact h
  | cons x xs ih => exact ih (h.takeSample _ x) _

theorem addMissing (h : s.Fits n) (gap : Nat) : (s.addMissing gap).Fits n := by
  unfold State.addMissing
  split
  · exact h.of_same rfl
  · exact h

theorem applyFix (h : w.st.Fits n) : w.applyFix.st.Fits n := by
  unfold Work.applyFix
  split
  · exact h
  · exact .queue (.modify (.setAccumulator (h.modify rfl) _) rfl) _

theorem selectSegment (h : w.st.Fits n) : w.selectSegment.st.Fits n := .raiseIf (h.modify rfl) _ _

theorem claimProfile (h : w.st.Fits n) (m d : Nat) : (w.claimProfile m d).1.st.Fits n := by
  unfold Work.claimProfile
  split
  · split
    · exact h.modify rfl
    · exact .raise (h.modify rfl) _
  · exact h

theorem openingSteps (h : w.st.Fits n) : w.openingSteps.1.st.Fits n :=
  .claimProfile (.selectSegment (.raiseIf (.applyFix (.takeLiveIfWaiting (h.modify rfl))) _ _)) _ _

theorem openRing (h : w.st.Fits n) : w.openRing.st.Fits n := h.openingSteps.modify rfl

theorem evaluate (h : w.st.Fits n) (r : RingContext) : (w.evaluate r).st.Fits n :=
  .foldl (fun w e hw => hw.of_reports (w.emit_reports e)) _ (h.modify rfl)

theorem closeAccepted (h : w.st.Fits n) (r : RingContext) : (w.closeAccepted r).st.Fits n := by
  have ready : ((w.evaluate r).modify fun s => s.makeReady r (w.st.summary r.slot)).st.Fits n :=
    (h.evaluate r).makeReady _ _
  exact .modify (ready.queueMark _ _) rfl

theorem closeDiscarded (h : w.st.Fits n) (r : RingContext) (tooLong : Bool) : (w.closeDiscarded r tooLong).st.Fits n := by
  have dropped : (w.modify fun s => s.dropProfile r).st.Fits n := h.of_drops (State.dropProfile_drops _ r)
  exact .raiseIf (.modify (.raise (dropped.queueMark _ _) _) rfl) _ _

theorem closeRing (h : w.st.Fits n) (r : RingContext) : (w.closeRing r).st.Fits n := by
  unfold Work.closeRing
  refine .modify ?_ rfl
  split
  · exact h.closeAccepted r
  · exact h.closeDiscarded r false
  · exact h.closeDiscarded r true
  · exact h

theorem ringStart (h : w.st.Fits n) : w.ringStart.st.Fits n := by
  unfold Work.ringStart
  split
  · exact h
  · exact h.openRing
  · exact .ite (h.closeRing _).settle.openRing (h.closeRing _).settle

/-! ### The head link -/

theorem checkGap (h : w.st.Fits n) (seq : Byte) : (w.checkGap seq).st.Fits n := by
  have counted : (w.modify fun s => s.withHead { s.head with badRun := 0, lastSeq := some seq }).st.Fits n := h.modify rfl
  exact .raiseIf (counted.addMissing _) _ _

theorem handOver (h : w.st.Fits n) (f : HeadFrame) : (w.handOver f).st.Fits n := by
  cases f with
  | sampleRun a0 step samples => exact h.takeSamples _ _ _ _
  | ringStart _ => exact h.ringStart
  | headStatus bytes => exact .ite (h.queue _) h

theorem goodFrame (h : w.st.Fits n) (seq : Byte) (f : HeadFrame) : (w.goodFrame seq f).st.Fits n := by
  unfold Work.goodFrame
  split
  · exact h.modify rfl
  · exact (h.checkGap seq).settle.handOver f

theorem badFrame (h : w.st.Fits n) : w.badFrame.st.Fits n := by
  unfold Work.badFrame
  split
  · exact h.modify rfl
  · have told := (h.raise .headFrameLoss).settle
    exact .ite (told.modify rfl) (.raise (told.modify rfl) _)

theorem judgeHead (h : w.st.Fits n) (frame : List Byte) : (w.judgeHead frame).st.Fits n := by
  unfold Work.judgeHead
  refine .settle ?_
  split
  · exact h.goodFrame _ _
  · exact h.badFrame

theorem setHeadPart (h : w.st.Fits n) (f : Option (List Byte)) : (w.setHeadPart f).st.Fits n := h.modify rfl

theorem headSymbol (h : w.st.Fits n) (x : Symbol) : (w.headSymbol x).st.Fits n := by
  unfold Work.headSymbol
  split
  · exact h.setHeadPart _
  · exact h
  · exact .ite ((h.setHeadPart none).judgeHead _) (h.setHeadPart _)
  · exact (h.setHeadPart _).badFrame.settle
  · exact (h.setHeadPart _).badFrame.settle
  · exact h

theorem receiveHead (h : w.st.Fits n) (x : Symbol) : (w.receiveHead x).st.Fits n :=
  .ite (.headSymbol (h.modify rfl) x) (h.modify rfl)

theorem acceptLevel (h : s.Fits n) (i : InputPin) (v : Level) : (s.acceptLevel i v).Fits n :=
  h.of_same (by rw [State.acceptLevel_frame]; rfl)

theorem pressMark (h : s.Fits n) : s.pressMark.Fits n := by
  unfold State.pressMark
  split
  · split
    · exact h.of_same rfl
    · exact h
  · exact h

/-! ### Responses -/

/-- A response takes one of the places that are free (R167). -/
theorem respond (h : w.st.Fits (n + 1)) (x : Response) : (w.respond x).st.Fits n := by
  obtain ⟨⟨events, requests, -, adjusted, route⟩, free⟩ := h
  have taken : (w.respond x).st.link.placesTaken = w.st.link.placesTaken + 1 := by
    simp only [RecorderLink.placesTaken, Work.respond, Work.modify_st, State.withLink_link, List.length_append,
      List.length_singleton]
    omega
  exact ⟨⟨events, requests, by omega, adjusted, route⟩, by omega⟩

theorem refuse (h : w.st.Fits (n + 1)) (r : Request) (why : Reason) (i : Option Nat) : (w.refuse r why i).st.Fits n :=
  (h.raise _).respond _

theorem finish (h : w.st.Fits (n + 1)) (r : Request) (payload : List Byte) : (w.finish r payload).st.Fits n :=
  h.respond _

/-- The Management Agent may change what it does if its reserved place is free. -/
theorem withAgent (h : s.Fits n) {a : Agent} (ha : a.reserved ≤ s.link.agent.reserved + n) :
    (s.withAgent a).Fits 0 := by
  obtain ⟨⟨events, requests, -, adjusted, route⟩, free⟩ := h
  have places : (s.withAgent a).link.placesTaken ≤ Config.maxResponses := by
    unfold RecorderLink.placesTaken at free ⊢
    change s.link.responses.length + a.reserved ≤ Config.maxResponses
    omega
  exact ⟨⟨events, requests, places, adjusted, route⟩, places⟩

/-- A request leaves its queue with a response place free (R167). -/
theorem dropRequest (h : s.Fits 0) (hready : s.link.ready = true) : s.dropRequest.Fits 1 := by
  obtain ⟨⟨events, requests, -, adjusted, route⟩, -⟩ := h
  obtain ⟨free, place⟩ : s.link.agent = .free ∧ s.link.responses.length < Config.maxResponses := by
    simpa [RecorderLink.ready] using hready
  have places : s.dropRequest.link.placesTaken = s.link.responses.length := by
    change s.link.responses.length + s.link.agent.reserved = _
    rw [free]
    rfl
  have shorter : s.dropRequest.link.requests.length ≤ s.link.requests.length := by
    simp [State.dropRequest]
  exact ⟨⟨events, shorter.trans requests, by omega, adjusted, route⟩, by omega⟩

/-- A changed route table within its capacity (R106). -/
theorem withTable (h : s.Fits n) {entries : List RouteEntry} (he : entries.length ≤ Config.maxRoute) :
    (s.withTable entries).Fits n := by
  obtain ⟨⟨events, requests, places, adjusted, -⟩, free⟩ := h
  exact ⟨⟨events, requests, places, adjusted, he⟩, free⟩

end State.Fits

/-! ### The upstream link -/

namespace State.Fits

variable {s : State} {w : Work}

/-- A request taken in finds its queue or a response place free, or is dropped (R166, R175). -/
theorem takeIn (h : w.st.Fits 0) (r : Request) : (w.takeIn r).st.Fits 0 := by
  unfold Work.takeIn
  dsimp only
  split
  · next short =>
    obtain ⟨⟨events, -, places, adjusted, route⟩, free⟩ := h
    refine ⟨⟨events, ?_, places, adjusted, route⟩, free⟩
    simpa using short
  · split
    · exact h
    · split
      · next place =>
        have reserved : w.st.Fits 1 := ⟨h.1, place⟩
        exact (reserved.respond _).raise _
      · exact h.raise _

theorem judgeFrame (h : w.st.Fits 0) (xs : List Symbol) : (w.judgeFrame xs).st.Fits 0 := by
  unfold Work.judgeFrame
  refine .settle ?_
  split
  · exact h.takeIn _
  · exact h.raise _

theorem setPartFrame (h : w.st.Fits 0) (f : Option (List Symbol)) : (w.setPartFrame f).st.Fits 0 := h.modify rfl

theorem receiveUp (h : w.st.Fits 0) (x : Symbol) : (w.receiveUp x).st.Fits 0 := by
  unfold Work.receiveUp
  split
  · exact h.setPartFrame _
  · exact h
  · exact (h.setPartFrame _).judgeFrame _
  · exact (h.setPartFrame _).judgeFrame _
  · exact h.setPartFrame _

theorem goDown (h : w.st.Fits 0) (sync : SymbolLock) : (w.goDown sync).st.Fits 0 :=
  .settle (.raiseIf (h.modify rfl) _ _)

theorem receive (h : w.st.Fits 0) (x : Symbol) : (w.receive x).st.Fits 0 :=
  .ite (h.goDown _) (.ite (.receiveUp (h.modify rfl) x) (h.modify rfl))

/-! ### The downstream link -/

theorem choose (h : s.Fits 0) : s.choose.Fits 0 := by
  unfold State.choose
  split
  · exact h.of_same rfl
  · exact h

theorem segmentSent (h : s.Fits 0) (k : Fin 3) : (s.segmentSent k).Fits 0 := by
  unfold State.segmentSent
  split
  · split <;> exact h.of_same rfl
  · exact h

/-- An item sent leaves its queue (R156). -/
theorem transmitted (h : s.Fits 0) : s.transmitted.Fits 0 := by
  unfold State.transmitted
  split
  · exact h
  · have sent : (s.withLink { s.link with tx := none }).Fits 0 := h.of_same rfl
    dsimp only
    split
    · obtain ⟨⟨events, requests, places, adjusted, route⟩, -⟩ := h
      have fewer : s.link.responses.tail.length + s.link.agent.reserved ≤ Config.maxResponses := by
        rw [List.length_tail]
        unfold RecorderLink.placesTaken at places
        omega
      exact ⟨⟨events, requests, fewer, adjusted, route⟩, fewer⟩
    · exact sent.of_queues rfl ((List.tail_sublist _).length_le.trans (le_max_left _ _)) id
    · exact sent.segmentSent _

/-! ### Resets -/

theorem powerOn (pins : Pins) (freeIndex : Nat) (pending : List Instr) :
    { State.reset with pins := pins, freeIndex := freeIndex, pending := pending : State }.Fits 0 := by
  refine ⟨⟨?_, ?_, ?_, ?_, ?_⟩, ?_⟩ <;> exact Nat.zero_le _

/-- A RESET empties every queue, lists its own adjustments and keeps the route table (R106, R153, R175). -/
theorem afterReset (h : s.Fits 0) : s.afterReset.Fits 0 := by
  have listed : s.params.takeAll.adjustedIds.length ≤ Config.maxAdjusted :=
    (ParamStore.foldl_takeOne (idsOf ParamClass.any)
      { s.params with adjustedIds := [], further := 0, liveWaiting := false }).2.2.2 (Nat.zero_le _)
  exact ⟨⟨Nat.zero_le _, Nat.zero_le _, Nat.zero_le _, listed, h.1.route⟩, Nat.zero_le _⟩

end State.Fits

/-! ### Requests -/

theorem writeEntries_length (table : List RouteEntry) {f : Nat} (hf : f ≤ table.length) (new : List RouteEntry) :
    (writeEntries table f new).length = max table.length (f + new.length) := by
  simp only [writeEntries, List.length_append, List.length_take, List.length_drop]
  omega

namespace State.Fits

variable {w : Work} (r : Request)

theorem start (h : w.st.Fits 1) : (start r w).st.Fits 0 := by
  unfold Machine.start
  split
  · refine .ite (h.refuse _ _ _) (.ite (h.refuse _ _ _) ?_)
    split
    · exact h.refuse _ _ _
    · exact (h.startAt _).finish _ _
  · exact h.refuse _ _ _

theorem fixChainage (h : w.st.Fits 1) : (fixChainage r w).st.Fits 0 := by
  unfold Machine.fixChainage
  split
  · exact .ite (h.refuse _ _ _) ((h.fixTo _).finish _ _)
  · exact h.refuse _ _ _

theorem setParam (h : w.st.Fits 1) : (setParam r w).st.Fits 0 := by
  unfold Machine.setParam
  split
  · split
    · exact .finish (.ite (.afterLiveWrite (h.modify rfl)) (h.modify rfl)) _ _
    · exact h.refuse _ _ _
  · exact h.refuse _ _ _

theorem getParam (h : w.st.Fits 1) : (getParam r w).st.Fits 0 := by
  unfold Machine.getParam
  split
  · split
    · exact h.finish _ _
    · exact h.refuse _ _ _
  · exact h.refuse _ _ _

theorem loadEnvelope (h : w.st.Fits 1) : (loadEnvelope r w).st.Fits 0 := by
  unfold Machine.loadEnvelope
  split
  · refine .ite ?_ (h.refuse _ _ _)
    split
    · exact .ite (h.refuse _ _ _) (.finish (h.modify rfl) _ _)
    · exact h.refuse _ _ _
  · exact h.refuse _ _ _

theorem commitEnvelope (h : w.st.Fits 1) : (commitEnvelope r w).st.Fits 0 := by
  unfold Machine.commitEnvelope
  split
  · split
    · exact .finish (h.modify rfl) _ _
    · exact h.refuse _ _ _
  · exact h.refuse _ _ _

theorem readEnvelope (h : w.st.Fits 1) : (readEnvelope r w).st.Fits 0 := by
  unfold Machine.readEnvelope
  split
  · split
    · exact .ite (h.finish _ _) (h.refuse _ _ _)
    · exact h.refuse _ _ _
  · exact h.refuse _ _ _

/-- A load that passes R107's check of its index ends at entry 511 or before. -/
theorem loadRoute (h : w.st.Fits 1) : (loadRoute r w).st.Fits 0 := by
  unfold Machine.loadRoute
  split
  · next f0 f1 body _ =>
    refine .ite (.ite ?_ (h.refuse _ _ _)) (h.refuse _ _ _)
    split
    · next inside =>
      split
      · exact h.refuse _ _ _
      · refine .finish (h.withTable ?_) _ _
        have written := List.length_filterMap_le id (readEntryList body)
        have := h.1.route
        rw [writeEntries_length _ inside.1]
        omega
    · exact h.refuse _ _ _
  · exact h.refuse _ _ _

theorem trimRoute (h : w.st.Fits 1) : (trimRoute r w).st.Fits 0 := by
  unfold Machine.trimRoute
  split
  · refine .ite (.ite (.finish (h.withTable ?_) _ _) (h.refuse _ _ _)) (h.refuse _ _ _)
    exact (List.length_take_le' _ _).trans h.1.route
  · exact h.refuse _ _ _

theorem readRoute (h : w.st.Fits 1) : (readRoute r w).st.Fits 0 := by
  unfold Machine.readRoute
  split
  · exact .ite (h.finish _ _) (h.refuse _ _ _)
  · exact h.refuse _ _ _

/-- Every kind of request is answered in the place that is free, or holds it (R167, R173). -/
theorem body (h : w.st.Fits 1) (k : RequestKind) : (k.body r w).st.Fits 0 := by
  cases k with
  | identify | readStatus | readIntrusions => exact .ite (h.finish _ _) (h.refuse _ _ _)
  | clearCauses => exact .ite (.finish (h.modify rfl) _ _) (h.refuse _ _ _)
  | setParam => exact h.setParam r
  | getParam => exact h.getParam r
  | loadEnvelope => exact h.loadEnvelope r
  | commitEnvelope => exact h.commitEnvelope r
  | readEnvelope => exact h.readEnvelope r
  | loadRoute => exact h.loadRoute r
  | trimRoute => exact h.trimRoute r
  | readRoute => exact h.readRoute r
  | start => exact h.start r
  | pause => exact .ite (.ite (h.pauseRun.finish _ _) (h.refuse _ _ _)) (h.refuse _ _ _)
  | resume =>
    exact .ite (.ite (.ite (.finish (h.gapClose.modify rfl) _ _) (h.refuse _ _ _)) (h.refuse _ _ _)) (h.refuse _ _ _)
  | stop => exact .ite (.ite (h.stopRun.finish _ _) (h.refuse _ _ _)) (h.refuse _ _ _)
  | clearFault => exact .ite (.ite (.finish (h.modify rfl) _ _) (h.refuse _ _ _)) (h.refuse _ _ _)
  | fixChainage => exact h.fixChainage r
  | headPass => exact .ite (h.withAgent (Nat.le_add_left _ _)) (h.refuse _ _ _)
  | reset => exact .ite ((h.finish r []).withAgent (Nat.zero_le _)) (h.refuse _ _ _)

end State.Fits

/-! ### Commands -/

/-- The next state a command answers is within its capacities. -/
def AnswersFitting (x : Result) : Prop := Answers (State.Fits · 0) x

namespace AnswersFitting

variable {s : State} {w : Work}

theorem done (h : w.st.Fits 0) : AnswersFitting w.done := Answers.next h.settle

theorem perform {serves : Option RequestKind → Bool} {body : Request → Work → Work}
    (hbody : ∀ (r : Request) (w : Work), w.st.Fits 1 → (body r w).st.Fits 0) (h : s.Fits 0) :
    AnswersFitting (perform serves body s) := by
  unfold Machine.perform
  split
  · next r taken =>
    have ready : s.link.ready = true := by
      unfold State.takes at taken
      split at taken
      · split at taken
        · next both => exact (Bool.and_eq_true_iff.1 both).1
        · cases taken
      · cases taken
    exact done (hbody r _ (h.dropRequest ready))
  · exact Answers.next h

theorem headSymbols (xs : List Symbol) (h : s.Fits 0) :
    AnswersFitting (xs.foldl Work.receiveHead (Work.of s)).done :=
  done (.foldl (fun _ x hw => hw.receiveHead x) xs h)

theorem upstreamSymbols (xs : List Symbol) (h : s.Fits 0) :
    AnswersFitting (xs.foldl Work.receive (Work.of s)).done :=
  done (.foldl (fun _ x hw => hw.receive x) xs h)

theorem headStall (h : s.Fits 0) : AnswersFitting (execHeadStall s) :=
  .ite (done (.raise (State.Fits.modify h rfl) _)) (.next h)

theorem wheelDecode (h : s.Fits 0) (w : Wheel) (a b : Level) : AnswersFitting (execWheelDecode w a b s) := by
  have accepted : (Work.of ((s.acceptLevel (wheelPinA w) a).acceptLevel (wheelPinB w) b)).st.Fits 0 :=
    (h.acceptLevel _ _).acceptLevel _ _
  exact done (.raiseIf (accepted.modify rfl) _ _)

theorem tagStrobe (h : s.Fits 0) : AnswersFitting (execTagStrobe s) := by
  have accepted : (Work.of (s.acceptLevel .tagStb .high)).st.Fits 0 := h.acceptLevel _ _
  exact .ite (done accepted.takeStrobe) (done accepted)

/-- A HEAD_PASS is answered in the place it held (R173). -/
theorem headPassDone (h : s.Fits 0) : AnswersFitting (execHeadPassDone s) := by
  unfold execHeadPassDone
  split
  · next tag bytes cycles sending =>
    have released : (s.withAgent .free).Fits 1 := by
      obtain ⟨⟨events, requests, places, adjusted, route⟩, -⟩ := h
      have held : s.link.placesTaken = s.link.responses.length + 1 := by
        rw [RecorderLink.placesTaken, sending]
        rfl
      have free : (s.withAgent .free).link.placesTaken = s.link.responses.length := rfl
      exact ⟨⟨events, requests, by omega, adjusted, route⟩, by omega⟩
    exact done (State.Fits.respond (w := (Work.of s).modify fun s => s.withAgent .free) released _)
  · exact Answers.next h

/-- Every command keeps the queues within their capacities. -/
theorem of_exec (c : Instr) (h : s.Fits 0) : AnswersFitting (exec c s) := by
  have hw : (Work.of s).st.Fits 0 := h
  cases c with
  | headFrameGood xs | headFrameBad xs => exact headSymbols xs h
  | headStall => exact headStall h
  | odometerUpdate => exact done hw.odometerUpdate
  | wheelDecode w a b => exact wheelDecode h w a b
  | tagStrobe => exact tagStrobe h
  | markPress => exact Answers.next (h.acceptLevel _ _).pressMark
  | requestFrame xs => exact upstreamSymbols xs h
  | unknownKind => exact perform (fun r _ hw => hw.refuse r _ _) h
  | identify => exact perform (fun r _ hw => hw.body r .identify) h
  | readStatus => exact perform (fun r _ hw => hw.body r .readStatus) h
  | clearCauses => exact perform (fun r _ hw => hw.body r .clearCauses) h
  | setParam => exact perform (fun r _ hw => hw.body r .setParam) h
  | getParam => exact perform (fun r _ hw => hw.body r .getParam) h
  | loadEnvelope => exact perform (fun r _ hw => hw.body r .loadEnvelope) h
  | commitEnvelope => exact perform (fun r _ hw => hw.body r .commitEnvelope) h
  | readEnvelope => exact perform (fun r _ hw => hw.body r .readEnvelope) h
  | loadRoute => exact perform (fun r _ hw => hw.body r .loadRoute) h
  | trimRoute => exact perform (fun r _ hw => hw.body r .trimRoute) h
  | readRoute => exact perform (fun r _ hw => hw.body r .readRoute) h
  | start => exact perform (fun r _ hw => hw.body r .start) h
  | pause => exact perform (fun r _ hw => hw.body r .pause) h
  | resume => exact perform (fun r _ hw => hw.body r .resume) h
  | stop => exact perform (fun r _ hw => hw.body r .stop) h
  | clearFault => exact perform (fun r _ hw => hw.body r .clearFault) h
  | fixChainage => exact perform (fun r _ hw => hw.body r .fixChainage) h
  | readIntrusions => exact perform (fun r _ hw => hw.body r .readIntrusions) h
  | headPass => exact perform (fun r _ hw => hw.body r .headPass) h
  | reset => exact perform (fun r _ hw => hw.body r .reset) h
  | headPassDone => exact headPassDone h
  | resetTakesEffect => exact .ite (.next h.afterReset) (.next h)
  | powerOnReset => exact Answers.next (.powerOn _ _ _)
  | arbiterChoose => exact Answers.next h.choose
  | frameTransmitted => exact .ite (.next h.afterReset) (.next h.transmitted)
  | recorderLinkUp => exact .ite (.next h) (upstreamSymbols _ h)
  | recorderLinkDown xs => exact .ite (upstreamSymbols xs h) (.next h)
  | headSymbolLock => exact .ite (.next h) (headSymbols _ h)
  | headSymbolLockLost xs => exact .ite (headSymbols xs h) (.next h)
  | inputLevelChange pin level => exact Answers.next (h.of_same rfl)
  | filteredFallingEdge input => exact Answers.next (h.acceptLevel _ _)

end AnswersFitting

theorem State.fits_zero_iff {s : State} : s.Fits 0 ↔ s.WithinCapacity := ⟨fun h => h.1, fun h => ⟨h, h.places⟩⟩

theorem stepClosed_fits : StepClosed (State.Fits · 0) where
  command c h := AnswersFitting.of_exec c h
  popped _ h := h.of_same rfl
  clock _ h := h.of_same rfl
  filters x h := h.withFilters x
  cycles _ sending h := h.withAgent (by rw [sending]; exact le_rfl)
  sent _ h := h.of_same rfl

/-- Settles O7: every command keeps the queues within their capacities, so every step does. That a response finds a place
is `State.Fits.dropRequest` for a request and `AnswersFitting.headPassDone` for a HEAD_PASS. -/
theorem capacityKept : Obligations.CapacityKept := by
  refine ⟨fun s t hs h => (stepClosed_fits.step (State.fits_zero_iff.2 hs) h).1, fun s => ?_, rfl, rfl, rfl,
    fun s => Iff.rfl⟩
  exact ⟨fun ⟨events, requests, places, adjusted, route⟩ => ⟨events, requests, places, adjusted, route⟩,
    fun ⟨events, requests, places, adjusted, route⟩ => ⟨events, requests, places, adjusted, route⟩⟩

end Sys2Proof.Machine
end

section
/-! SUPPORT. Strobes that place no fix (R118 to R120) and mark presses (R125). -/

namespace Sys2Proof.Machine

@[simp] theorem State.acceptLevel_ring (s : State) (i : InputPin) (v : Level) : (s.acceptLevel i v).ring = s.ring := by
  rw [State.acceptLevel_frame]

@[simp] theorem State.acceptLevel_ctrl (s : State) (i : InputPin) (v : Level) : (s.acceptLevel i v).ctrl = s.ctrl := by
  rw [State.acceptLevel_frame]

/-- Accepting a level leaves the chosen candidate of a strobe as it is. -/
theorem State.acceptLevel_nearest (s : State) (i : InputPin) (v : Level) :
    nearest (s.acceptLevel i v).route.entries (s.acceptLevel i v).chainage
      ((s.acceptLevel i v).effNat Param.matchWindow) =
    nearest s.route.entries s.chainage (s.effNat Param.matchWindow) := by
  rw [State.acceptLevel_chainage, State.acceptLevel_route, State.effNat, State.eff, State.acceptLevel_params]
  rfl

/-! ### Strobes -/

/-- With every REFERENCE outside the window there is no candidate (R119). -/
theorem nearestFrom_eq_none {table : List RouteEntry} {cc : Int} {window : Nat}
    (far : ∀ c l, .reference c l ∈ table → window < distance c cc) (i : Nat) :
    nearestFrom cc window i none table = none := by
  induction table generalizing i with
  | nil => rfl
  | cons e rest ih =>
    have later := ih fun c l h => far c l (List.mem_cons_of_mem e h)
    cases e with
    | segment start slot margin => exact later (i + 1)
    | reference r l =>
      have outside : ¬ distance r cc ≤ window := not_le.2 (far r l List.mem_cons_self)
      simp [nearestFrom, outside, later]

section
variable {s : State} {x : Option Cause}

/-- A strobe with no candidate (R119). -/
theorem Work.takeStrobe_of_none (hm : nearest s.route.entries s.chainage (s.effNat Param.matchWindow) = none)
    (hroom : s.room 2) :
    (Work.mk s x).takeStrobe = Work.mk ((s.recorded (.fix
      { status := .unmatched, isTag := true, capture := s.chainage, reference := none, offset := none,
        beforeAfter := none })).reported .unmatchedTag) x := by
  simp only [Work.takeStrobe, hm]
  rw [Work.queue_mk _ (State.room_mono hroom (by decide)), Work.raise_mk (by decide) (s.recorded_room _ hroom)]

/-- A strobe at the entry of the pending fix or at the last applied one (R120). -/
theorem Work.takeStrobe_of_repeated {m : Match}
    (hm : nearest s.route.entries s.chainage (s.effNat Param.matchWindow) = some m)
    (known : s.odo.pendingFix.bind Fix.tagIndex = some m.index ∨ s.route.lastApplied = some m.index)
    (hroom : s.room 1) :
    (Work.mk s x).takeStrobe = Work.mk (s.recorded (.fix
      { status := .repeated, isTag := true, capture := s.chainage, reference := some (m.index, m.label), offset := none,
        beforeAfter := none })) x := by
  simp only [Work.takeStrobe, hm, if_pos known]
  exact Work.queue_mk _ hroom

end

/-- Settles O29: `nearestFrom_eq_none` and `nearest_eq` say which entry the strobe finds, and the two lemmas on
`Work.takeStrobe` what comes of it. -/
theorem tagStrobeWithoutFix : Obligations.TagStrobeWithoutFix := by
  intro s held
  have room {n : Nat} (h : s.room n) : held.room n := by
    rw [State.room, State.acceptLevel_link]
    exact h
  have chainage : held.chainage = s.chainage := s.acceptLevel_chainage _ _
  refine ⟨fun hrun => ?_, fun hrun hroom far => ?_, fun c label i hrun hroom known here within near => ?_⟩
  · have idle : ¬ (s.ctrl.run = .running ∨ s.ctrl.run = .paused) := by rcases hrun with h | h <;> simp [h]
    exact if_neg idle
  · have noCandidate : nearest s.route.entries s.chainage (s.effNat Param.matchWindow) = none := by
      refine nearestFrom_eq_none (fun c l hmem => ?_) 0
      obtain ⟨j, hj⟩ := List.getElem?_of_mem hmem
      exact far j c l hj
    rw [exec_tagStrobe hrun, Work.takeStrobe_of_none ((s.acceptLevel_nearest _ _).trans noCandidate) (room hroom),
      Work.done_mk, chainage]
  · have found := nearest_eq (window := s.effNat Param.matchWindow) here within near
    have known' : held.odo.pendingFix.bind Fix.tagIndex = some i ∨ held.route.lastApplied = some i := by
      rw [State.acceptLevel_odo, State.acceptLevel_route]
      rcases known with applied | ⟨f, l, pending, origin⟩
      · exact .inr applied
      · exact .inl (by simp [pending, Fix.tagIndex, origin])
    rw [exec_tagStrobe hrun, Work.takeStrobe_of_repeated ((s.acceptLevel_nearest _ _).trans found) known' (room hroom),
      Work.done_mk, chainage]

/-! ### Mark presses -/

section
variable {s : State}

theorem State.openRing_eq_some_iff {r : RingContext} : s.openRing = some r ↔ s.ring.asm = .opened r := by
  unfold State.openRing
  split
  · next r' opened => simp [opened]
  · next notOpened => simpa using notOpened r

/-- A press in RUNNING with a ring OPEN goes to that ring (R125). -/
theorem State.pressMark_of_opened {r : RingContext} (hr : s.ring.asm = .opened r) (hrun : s.ctrl.run = .running) :
    s.pressMark = s.withRing { s.ring with asm := .opened (r.press s.chainage) } := by
  simp only [State.pressMark, hr, hrun, if_true]

/-- Any other press is ignored (R125). -/
theorem State.pressMark_of_not_opened (h : s.openRing = none ∨ s.ctrl.run ≠ .running) : s.pressMark = s := by
  unfold State.pressMark
  split
  · next r opened =>
    have notRunning : s.ctrl.run ≠ .running := h.resolve_left fun none => by
      rw [State.openRing_eq_some_iff.2 opened] at none
      cases none
    exact if_neg notRunning
  · rfl

end

/-- Settles O30: `State.pressMark` with the level high, by whether a ring is OPEN in RUNNING. -/
theorem markPress : Obligations.MarkPress := by
  intro s held
  have ring : held.ring = s.ring := s.acceptLevel_ring _ _
  have ctrl : held.ctrl = s.ctrl := s.acceptLevel_ctrl _ _
  have pressed : exec .markPress s = .next held.pressMark := rfl
  refine ⟨fun r opened hrun => ?_, fun ignored => ?_, fun r => State.openRing_eq_some_iff⟩
  · have marked := State.pressMark_of_opened (ring ▸ opened) (ctrl ▸ hrun)
    rw [s.acceptLevel_chainage, ring] at marked
    rw [pressed, marked, RingContext.press, RingContext.markAfter]
    cases r.heldMark <;> rfl
  · have noRing : held.openRing = s.openRing := by rw [State.openRing, ring, State.openRing]
    rw [pressed, State.pressMark_of_not_opened (by rwa [noRing, ctrl])]

end Sys2Proof.Machine
end

section
/-! SUPPORT. Requests from a run state that refuses them (R107, R109, R121, R130). -/

namespace Sys2Proof.Machine

theorem State.routeOpen_eq_false {s : State} (h : s.ctrl.run = .running ∨ s.ctrl.run = .paused) :
    s.routeOpen = false := by
  rcases h with h | h <;> simp [State.routeOpen, h]

/-- A request of a legal length is refused by its run state before its operands are looked at. -/
theorem RequestKind.body_of_wrongState {k : RequestKind} {r : Request} {w : Work}
    (hlen : k.legalLength r.payload.length) (hrun : k.refusedIn w.st.ctrl.run) :
    k.body r w = w.refuse r .wrongState none := by
  cases k with
  | start =>
    obtain ⟨v0, v1, v2, v3, hp⟩ := List.length_eq_four.1 hlen
    simp only [body, Machine.start, hp]
    exact if_pos hrun
  | pause | resume | clearFault => exact (if_pos (List.eq_nil_of_length_eq_zero hlen)).trans (if_neg hrun)
  | stop =>
    have ended : ¬ (w.st.ctrl.run = .running ∨ w.st.ctrl.run = .paused) := by rcases hrun with h | h <;> simp [h]
    exact (if_pos (List.eq_nil_of_length_eq_zero hlen)).trans (if_neg ended)
  | fixChainage =>
    obtain ⟨v0, v1, v2, v3, hp⟩ := List.length_eq_four.1 hlen
    simp only [body, Machine.fixChainage, hp]
    exact if_pos hrun
  | loadRoute =>
    obtain ⟨m, -, -, hn⟩ := id hlen
    obtain ⟨f0, f1, entries, hp⟩ : ∃ f0 f1 entries, r.payload = f0 :: f1 :: entries := by
      match h : r.payload with
      | f0 :: f1 :: entries => exact ⟨f0, f1, entries, rfl⟩
      | [] | [_] => simp only [h, List.length_cons, List.length_nil] at hn; omega
    rw [hp, legalLength_loadRoute_iff] at hlen
    simp only [body, Machine.loadRoute, hp, hlen, if_true, State.routeOpen_eq_false hrun]
    rfl
  | trimRoute =>
    obtain ⟨n0, n1, hp⟩ := List.length_eq_two.1 hlen
    simp only [body, Machine.trimRoute, hp, State.routeOpen_eq_false hrun]
    rfl
  | identify | readStatus | clearCauses | setParam | getParam | loadEnvelope | commitEnvelope | readEnvelope
  | readRoute | readIntrusions | headPass | reset => exact absurd hrun id

/-- Settles O33: the refusal by run state is the performing's own. -/
theorem wrongStateRefused : Obligations.WrongStateRefused := by
  intro s k r rest hoffers hroom hlen hrun
  exact hoffers.exec_of_refuse hroom (RequestKind.body_of_wrongState hlen hrun)

end Sys2Proof.Machine
end

section
/-! SUPPORT. The requests over the route table: the bytes of an entry and their reading, what a load writes, and what an
accepted LOAD_ROUTE, TRIM_ROUTE and READ_ROUTE do (R107 to R110, R114, §12.3). -/

namespace Sys2Proof.Machine

/-! ### Numbers in bytes -/

/-- The number that `n` bytes of a number spell (§0.5). -/
theorem readLe_leBytes (n v : Nat) : readLe (leBytes n v) = v % 256 ^ n := by
  induction n generalizing v with
  | zero => simp [leBytes, readLe, Nat.mod_one]
  | succ n ih => rw [leBytes, readLe, ih, BitVec.toNat_ofNat, pow_succ' 256, Nat.mod_mul]

theorem readLe_leBytes_two {v : Nat} (h : v < 65536) : readLe (leBytes 2 v) = v := by
  rw [readLe_leBytes]
  omega

/-- A signed number of 32 bits in its four bytes. -/
theorem readSigned_i32 {v : Int} (h : -2 ^ 31 ≤ v ∧ v < 2 ^ 31) : readSigned (i32 v) = v := by
  have length : (i32 v).length = 4 := rfl
  have spelled : readLe (i32 v) = (v % 256 ^ 4).toNat := by
    rw [i32, leSigned, readLe_leBytes]
    omega
  rw [readSigned, spelled, length]
  split_ifs <;> omega

/-! ### The bytes of an entry -/

/-- An entry that its eight bytes can hold and R107 admits. -/
def RouteEntry.Legal : RouteEntry → Prop
  | .segment c _ m => -2 ^ 31 ≤ c ∧ c < 2 ^ 31 ∧ ∀ w, m = some w → w ≤ 4095
  | .reference c l => -2 ^ 31 ≤ c ∧ c < 2 ^ 31 ∧ l < 65536

theorem readSegmentSlot_slotByte (slot : Option SlotId) : readSegmentSlot (slotByte slot) = some slot := by
  cases slot with
  | none => rfl
  | some k => revert k; decide

theorem readMargin_getD {m : Option Nat} (h : ∀ w, m = some w → w ≤ 4095) : readMargin (m.getD 0xFFFF) = some m := by
  cases m with
  | none => rfl
  | some w =>
    have small := h w rfl
    have present : w ≠ 65535 := by omega
    simp [readMargin, small, present]

/-- A legal entry is read back from its eight bytes, and the reading goes on after them. -/
theorem readEntryList_bytes_append {e : RouteEntry} (h : e.Legal) (rest : List Byte) :
    readEntryList (e.bytes ++ rest) = some e :: readEntryList rest := by
  cases e with
  | segment c slot m =>
    obtain ⟨lower, upper, margin⟩ := h
    have chainage := readSigned_i32 ⟨lower, upper⟩
    have field : readLe (leBytes 2 (m.getD 0xFFFF)) = m.getD 0xFFFF := readLe_leBytes_two (by
      cases m with
      | none => decide
      | some w => exact (margin w rfl).trans_lt (by decide))
    have read : readEntryList ((RouteEntry.segment c slot m).bytes ++ rest) =
      (match readSegmentSlot (slotByte slot), readMargin (readLe (leBytes 2 (m.getD 0xFFFF))) with
        | some sl, some m => some (.segment (readSigned (i32 c)) sl m)
        | _, _ => none) :: readEntryList rest := rfl
    rw [read, readSegmentSlot_slotByte, field, readMargin_getD margin, chainage]
  | reference c l =>
    obtain ⟨lower, upper, label⟩ := h
    have read : readEntryList ((RouteEntry.reference c l).bytes ++ rest) =
      some (.reference (readSigned (i32 c)) (readLe (leBytes 2 l))) :: readEntryList rest := rfl
    rw [read, readSigned_i32 ⟨lower, upper⟩, readLe_leBytes_two label]

theorem readEntryList_flatMap_bytes {es : List RouteEntry} (h : ∀ e ∈ es, e.Legal) :
    readEntryList (es.flatMap RouteEntry.bytes) = es.map some := by
  induction es with
  | nil => rfl
  | cons e es ih =>
    rw [List.flatMap_cons, readEntryList_bytes_append (h e List.mem_cons_self),
      ih fun x hx => h x (List.mem_cons_of_mem e hx), List.map_cons]

theorem RouteEntry.bytes_length (e : RouteEntry) : e.bytes.length = 8 := by cases e <;> rfl

theorem flatMap_bytes_length (es : List RouteEntry) : (es.flatMap RouteEntry.bytes).length = 8 * es.length := by
  rw [List.length_flatMap]
  simp [RouteEntry.bytes_length, mul_comm]

theorem firstIllegal_map_some (es : List RouteEntry) (i : Nat) : firstIllegal (es.map some) i = none := by
  induction es generalizing i with
  | nil => rfl
  | cons e es ih => exact ih (i + 1)

/-! ### Entries written -/

/-- The entries of a load stand at the indices from the first one on (R108). -/
theorem writeEntries_getElem?_of_lt {table new : List RouteEntry} {f j : Nat} (hf : f ≤ table.length)
    (hj : j < new.length) : (writeEntries table f new)[f + j]? = new[j]? := by
  have before : (table.take f).length = f := List.length_take_of_le hf
  rw [writeEntries, List.append_assoc, List.getElem?_append_right (by omega), before, Nat.add_sub_cancel_left,
    List.getElem?_append_left hj]

/-- Entries elsewhere stay (R108). -/
theorem writeEntries_getElem?_of_outside {table new : List RouteEntry} {f i : Nat} (hf : f ≤ table.length)
    (hi : i < f ∨ f + new.length ≤ i) : (writeEntries table f new)[i]? = table[i]? := by
  have before : (table.take f).length = f := List.length_take_of_le hf
  rw [writeEntries, List.append_assoc]
  rcases hi with hi | hi
  · rw [List.getElem?_append_left (by omega), List.getElem?_take_of_lt hi]
  · rw [List.getElem?_append_right (by omega), List.getElem?_append_right (by omega), List.getElem?_drop, before]
    congr 1
    omega

/-! ### Accepted requests -/

section
variable {s : State} {r : Request} {rest : List Request}

/-- An accepted LOAD_ROUTE (R107, R108). -/
theorem State.Offers.exec_loadRoute (h : s.Offers .loadRoute r rest) {f : Nat} {es : List RouteEntry}
    (hp : r.payload = leBytes 2 f ++ es.flatMap RouteEntry.bytes) (hone : 1 ≤ es.length) (hmost : es.length ≤ 32)
    (hf : f ≤ s.route.entries.length) (hend : f + es.length ≤ 512) (hrun : s.ctrl.run = .idle ∨ s.ctrl.run = .fault)
    (legal : ∀ e ∈ es, e.Legal) :
    exec .loadRoute s = .next ((s.withTable (writeEntries s.route.entries f es)).answered rest (doneTo r [])) := by
  have whole : wholeItems (es.flatMap RouteEntry.bytes).length 8 32 = true :=
    (wholeItems_iff (by decide)).2 ⟨es.length, hone, hmost, flatMap_bytes_length es⟩
  have first : readLe (leBytes 2 f) = f := readLe_leBytes_two (by omega)
  have fits : f ≤ s.route.entries.length ∧ f + (es.map some).length ≤ Config.maxRoute := by
    rw [List.length_map]
    exact ⟨hf, hend⟩
  have read := readEntryList_flatMap_bytes legal
  have opened : (s.withLink { s.link with requests := rest }).routeOpen = true := State.routeOpen_of hrun
  change exec (performingCommand (some .loadRoute)) s = _
  rw [h.exec_eq]
  simp only [RequestKind.body, loadRoute, hp]
  generalize hb : leBytes 2 f = bytes at first
  obtain ⟨f0, f1, rfl⟩ := List.length_eq_two.1 (hb ▸ rfl : bytes.length = 2)
  simp only [List.cons_append, List.nil_append, whole, if_true, first, read, opened, fits, State.withLink_route,
    and_self, firstIllegal_map_some, List.filterMap_map, Function.comp_def, id, List.filterMap_some]
  rfl

/-- An accepted TRIM_ROUTE (R109). -/
theorem State.Offers.exec_trimRoute (h : s.Offers .trimRoute r rest) {n0 n1 : Byte} (hp : r.payload = [n0, n1])
    (hrun : s.ctrl.run = .idle ∨ s.ctrl.run = .fault) (hn : n0.toNat + 256 * n1.toNat ≤ s.route.entries.length) :
    exec .trimRoute s = .next ((s.withTable (s.route.entries.take (n0.toNat + 256 * n1.toNat))).answered rest
      (doneTo r [])) := by
  have opened : (s.withLink { s.link with requests := rest }).routeOpen = true := State.routeOpen_of hrun
  change exec (performingCommand (some .trimRoute)) s = _
  rw [h.exec_eq]
  simp only [RequestKind.body, trimRoute, hp, opened, readLe_pair, State.withLink_route, hn, if_true]
  rfl

/-- What READ_ROUTE answers (R110, §12.3). -/
theorem RouteUnit.readBytes_eq (t : RouteUnit) (f0 f1 count : Byte) :
    t.readBytes (f0.toNat + 256 * f1.toNat) count.toNat = leBytes 2 t.entries.length ++ [f0, f1] ++
      [BitVec.ofNat 8 (min count.toNat (t.entries.length - (f0.toNat + 256 * f1.toNat)))] ++
      ((t.entries.drop (f0.toNat + 256 * f1.toNat)).take count.toNat).flatMap RouteEntry.bytes := by
  simp only [RouteUnit.readBytes, u16, leBytes_pair, byte, List.length_take, List.length_drop]

/-- An accepted READ_ROUTE (R110). -/
theorem State.Offers.exec_readRoute (h : s.Offers .readRoute r rest) {f0 f1 count : Byte}
    (hp : r.payload = [f0, f1, count]) (hf : f0.toNat + 256 * f1.toNat ≤ s.route.entries.length)
    (hone : 1 ≤ count.toNat) (hmost : count.toNat ≤ 32) :
    exec .readRoute s = .next (s.answered rest (doneTo r
      (s.route.readBytes (f0.toNat + 256 * f1.toNat) count.toNat))) := by
  change exec (performingCommand (some .readRoute)) s = _
  rw [h.exec_eq]
  simp only [RequestKind.body, readRoute, hp, readLe_pair, State.withLink_route, hf, hone, hmost, and_self, if_true]
  rfl

end

/-! ### The obligations -/

/-- Settles O46: the load as `State.Offers.exec_loadRoute` has it, then what stands at each index after it. -/
theorem loadRouteWrites : Obligations.LoadRouteWrites := by
  constructor
  · intro e
    cases e with
    | segment c slot m => cases slot <;> rfl
    | reference c l => rfl
  · intro s r rest f es ho hp hone hmost hf hend hrun fields
    have legal : ∀ e ∈ es, e.Legal := fun e he => by
      have := fields e he
      cases e with
      | segment | reference => exact this
    exact ⟨_, ho.exec_loadRoute hp hone hmost hf hend hrun legal, rfl, rfl, rfl, writeEntries_length _ hf _,
      fun _ hj => writeEntries_getElem?_of_lt hf hj, fun _ hi => writeEntries_getElem?_of_outside hf hi⟩

/-- Settles O47: the refusals by length, run state and operand, each the performing's own, then the accepted requests. -/
theorem trimAndReadRoute : Obligations.TrimAndReadRoute := by
  constructor
  · intro s r rest ho
    refine ⟨fun hroom hlen => ?_, fun hroom hlen hrun => ?_, fun n0 n1 hp hrun => ⟨fun hroom h => ?_, fun h => ?_⟩⟩
    · exact ho.exec_of_refuse hroom (RequestKind.body_of_badLength hlen)
    · exact ho.exec_of_refuse hroom (RequestKind.body_of_wrongState hlen hrun)
    · exact ho.exec_of_outOfRange hroom fun w hw =>
        trimRoute_outOfRange hp (by rw [hw]; exact hrun) (by rw [hw]; exact h)
    · exact ho.exec_trimRoute hp hrun h
  · intro s r rest ho
    refine ⟨fun hroom hlen => ?_, fun f0 f1 count hp => ⟨fun hroom h => ?_, fun hf hone hmost => ?_⟩⟩
    · exact ho.exec_of_refuse hroom (RequestKind.body_of_badLength hlen)
    · exact ho.exec_of_outOfRange hroom fun w hw => readRoute_outOfRange hp (by rw [hw]; exact h)
    · rw [ho.exec_readRoute hp hf hone hmost, RouteUnit.readBytes_eq]

end Sys2Proof.Machine
end

section
/-! SUPPORT. The validation scan of a route table and a plain lookup in it (R111, R113). -/

namespace Sys2Proof.Machine

/-! ### One entry of the scan -/

/-- An entry that the scan refuses after `before`, with the last SEGMENT start `last` (R111). -/
def RouteEntry.Falls (before : RouteEntry) (last : Option Int) (e : RouteEntry) : Prop :=
  e.chainage < before.chainage ∨ (e.isSegment = true ∧ ∃ a, last = some a ∧ e.chainage ≤ a)

/-- The last SEGMENT start once an entry is passed. -/
def RouteEntry.lastStart (last : Option Int) (e : RouteEntry) : Option Int :=
  if e.isSegment then some e.chainage else last

section
variable {before e : RouteEntry} {last : Option Int}

theorem scanRoute_cons_of_falls (h : before.Falls last e) (i : Nat) (rest : List RouteEntry) :
    scanRoute before last i (e :: rest) = some i := by
  cases last <;> simp_all [scanRoute, RouteEntry.Falls]

theorem scanRoute_cons_of_not_falls (h : ¬ before.Falls last e) (i : Nat) (rest : List RouteEntry) :
    scanRoute before last i (e :: rest) = scanRoute e (e.lastStart last) (i + 1) rest := by
  cases last <;> simp_all [scanRoute, RouteEntry.Falls, RouteEntry.lastStart]

theorem scanRoute_nil (i : Nat) : scanRoute before last i [] = if last = none then some i else none := by
  cases last <;> rfl

/-! ### Tables that pass -/

/-- The SEGMENT starts of a list of entries, in its order. -/
def segmentStarts (table : List RouteEntry) : List Int := (table.filter RouteEntry.isSegment).map RouteEntry.chainage

/-- Passing an entry puts its SEGMENT start, if it has one, after the last one. -/
theorem isChain_starts_cons (rest : List RouteEntry) :
    (last.toList ++ segmentStarts (e :: rest)).IsChain (· < ·) ↔
      (e.isSegment = true → ∀ a, last = some a → a < e.chainage) ∧
        ((e.lastStart last).toList ++ segmentStarts rest).IsChain (· < ·) := by
  cases hseg : e.isSegment with
  | false => simp [segmentStarts, hseg, RouteEntry.lastStart]
  | true => cases last <;> simp [segmentStarts, hseg, RouteEntry.lastStart]

/-- A scan finds nothing exactly when no chainage falls, the SEGMENT starts rise, and there is one (R111). -/
theorem scanRoute_eq_none_iff (rest : List RouteEntry) (before : RouteEntry) (last : Option Int) (i : Nat) :
    scanRoute before last i rest = none ↔
      (before.chainage :: rest.map RouteEntry.chainage).IsChain (· ≤ ·) ∧
      (last.toList ++ segmentStarts rest).IsChain (· < ·) ∧
      (last ≠ none ∨ ∃ e ∈ rest, e.isSegment = true) := by
  induction rest generalizing before last i with
  | nil => cases last <;> simp [scanRoute_nil, segmentStarts]
  | cons e rest ih =>
    have started : e.lastStart last ≠ none ↔ last ≠ none ∨ e.isSegment = true := by
      cases hseg : e.isSegment <;> simp [RouteEntry.lastStart, hseg]
    by_cases hfalls : before.Falls last e
    · rw [scanRoute_cons_of_falls hfalls, isChain_starts_cons, List.map_cons, List.isChain_cons_cons]
      refine iff_of_false nofun ?_
      rintro ⟨⟨rises, -⟩, ⟨segmentRises, -⟩, -⟩
      rcases hfalls with fall | ⟨hseg, a, ha, fall⟩
      · omega
      · have := segmentRises hseg a ha
        omega
    · obtain ⟨rises, segmentRises⟩ := not_or.1 hfalls
      have after : e.isSegment = true → ∀ a, last = some a → a < e.chainage := fun hseg a ha =>
        not_le.1 fun fall => segmentRises ⟨hseg, a, ha, fall⟩
      rw [scanRoute_cons_of_not_falls hfalls, ih, isChain_starts_cons, List.map_cons, List.isChain_cons_cons, started,
        List.exists_mem_cons_iff, or_assoc]
      exact ⟨fun ⟨h1, h2, h3⟩ => ⟨⟨not_lt.1 rises, h1⟩, ⟨after, h2⟩, h3⟩,
        fun ⟨⟨_, h1⟩, ⟨_, h2⟩, h3⟩ => ⟨h1, h2, h3⟩⟩

end

/-- What a table that passes validation is (R111). -/
theorem firstOffending_eq_none_iff (table : List RouteEntry) :
    firstOffending table = none ↔
      (table.map RouteEntry.chainage).Pairwise (· ≤ ·) ∧ (segmentStarts table).Pairwise (· < ·) ∧
      ∃ e ∈ table, e.isSegment = true := by
  cases table with
  | nil => simp [firstOffending]
  | cons e rest =>
    have scanned : firstOffending (e :: rest) = scanRoute e (e.lastStart none) 1 rest := rfl
    have starts := isChain_starts_cons (e := e) (last := none) rest
    have started : e.lastStart none ≠ none ↔ e.isSegment = true := by
      cases hseg : e.isSegment <;> simp [RouteEntry.lastStart, hseg]
    simp only [reduceCtorEq, false_implies, implies_true, true_and, Option.toList_none, List.nil_append] at starts
    rw [scanned, scanRoute_eq_none_iff, ← starts, started, List.isChain_iff_pairwise, List.isChain_iff_pairwise,
      List.exists_mem_cons_iff, List.map_cons]

/-! ### The first offending entry -/

/-- Entry `j` is the last SEGMENT before index `i`, with start `a`. -/
def LastSegment (table : List RouteEntry) (i : Nat) (a : Int) : Prop :=
  ∃ j c, j < i ∧ table[j]? = some c ∧ c.isSegment = true ∧ c.chainage = a ∧
    ∀ m d, j < m → m < i → table[m]? = some d → d.isSegment = false

/-- Entry `i` offends: its chainage falls, or its SEGMENT start does not rise above the last SEGMENT's (R111). -/
def Offends (table : List RouteEntry) (i : Nat) : Prop :=
  ∃ a b, 1 ≤ i ∧ table[i - 1]? = some a ∧ table[i]? = some b ∧ (b.chainage < a.chainage ∨
    (b.isSegment = true ∧ ∃ j c, j < i ∧ table[j]? = some c ∧ c.isSegment = true ∧ b.chainage ≤ c.chainage ∧
      ∀ m d, j < m → m < i → table[m]? = some d → d.isSegment = false))

section
variable {table : List RouteEntry} {i : Nat} {e : RouteEntry}

theorem lastSegment_zero {a : Int} : ¬ LastSegment table 0 a := by
  rintro ⟨j, c, hj, -⟩
  omega

/-- Passing an entry moves the last SEGMENT start as the scan moves it. -/
theorem lastSegment_succ {last : Option Int} (here : table[i]? = some e)
    (hlast : ∀ a, LastSegment table i a ↔ last = some a) (a : Int) :
    LastSegment table (i + 1) a ↔ e.lastStart last = some a := by
  cases hseg : e.isSegment with
  | true =>
    simp only [RouteEntry.lastStart, hseg, if_true, Option.some.injEq]
    constructor
    · rintro ⟨j, c, hj, hc, -, rfl, later⟩
      rcases (Nat.lt_succ_iff.1 hj).eq_or_lt with rfl | hlt
      · rw [Option.some.inj (here.symm.trans hc)]
      · exact absurd (later i e hlt (Nat.lt_succ_self i) here) (by simp [hseg])
    · rintro rfl
      exact ⟨i, e, Nat.lt_succ_self i, here, hseg, rfl, fun m _ h1 h2 => by omega⟩
  | false =>
    simp only [RouteEntry.lastStart, hseg, Bool.false_eq_true, if_false, ← hlast]
    constructor
    · rintro ⟨j, c, hj, hc, hcseg, rfl, later⟩
      rcases (Nat.lt_succ_iff.1 hj).eq_or_lt with rfl | hlt
      · rw [← Option.some.inj (here.symm.trans hc), hseg] at hcseg
        cases hcseg
      · exact ⟨j, c, hlt, hc, hcseg, rfl, fun m d h1 h2 => later m d h1 (h2.trans (Nat.lt_succ_self i))⟩
    · rintro ⟨j, c, hj, hc, hcseg, rfl, later⟩
      refine ⟨j, c, hj.trans (Nat.lt_succ_self i), hc, hcseg, rfl, fun m d h1 h2 hd => ?_⟩
      rcases (Nat.lt_succ_iff.1 h2).eq_or_lt with rfl | hlt
      · rwa [← Option.some.inj (here.symm.trans hd)]
      · exact later m d h1 hlt hd

/-- An entry offends exactly when the scan refuses it. -/
theorem offends_iff_falls {before : RouteEntry} {last : Option Int} (hi : 1 ≤ i) (hbefore : table[i - 1]? = some before)
    (here : table[i]? = some e) (hlast : ∀ a, LastSegment table i a ↔ last = some a) :
    Offends table i ↔ before.Falls last e := by
  simp only [Offends, hbefore, here, Option.some.injEq, RouteEntry.Falls, ← hlast]
  constructor
  · rintro ⟨_, _, -, rfl, rfl, fall | ⟨hseg, j, c, hj, hc, hcseg, fall, later⟩⟩
    · exact .inl fall
    · exact .inr ⟨hseg, c.chainage, ⟨j, c, hj, hc, hcseg, rfl, later⟩, fall⟩
  · rintro (fall | ⟨hseg, _, ⟨j, c, hj, hc, hcseg, rfl, later⟩, fall⟩)
    · exact ⟨_, _, hi, rfl, rfl, .inl fall⟩
    · exact ⟨_, _, hi, rfl, rfl, .inr ⟨hseg, j, c, hj, hc, hcseg, fall, later⟩⟩

theorem Offends.lt_length (h : Offends table i) : i < table.length := by
  obtain ⟨_, b, -, -, hb, -⟩ := h
  exact (List.getElem?_eq_some_iff.1 hb).1

/-- The index that validation answers: the first entry that offends, or the length where none does and no SEGMENT is
there (R111). -/
def FirstOffending (table : List RouteEntry) (i : Nat) : Prop :=
  (Offends table i ∧ ∀ j < i, ¬ Offends table j) ∨
    ((∀ j, ¬ Offends table j) ∧ (∀ e ∈ table, e.isSegment = false) ∧ i = table.length)

theorem FirstOffending.unique {k : Nat} (h : FirstOffending table i) (h' : FirstOffending table k) : i = k := by
  rcases h with ⟨offends, first⟩ | ⟨allPass, -, rfl⟩ <;> rcases h' with ⟨offends', first'⟩ | ⟨allPass', -, rfl⟩
  · exact le_antisymm (not_lt.1 fun hlt => first k hlt offends') (not_lt.1 fun hlt => first' i hlt offends)
  · exact absurd offends (allPass' i)
  · exact absurd offends' (allPass k)
  · rfl

/-- The scan has come to index `i` without a refusal, with the entry before and the last SEGMENT start. -/
structure ScannedTo (table : List RouteEntry) (i : Nat) (before : RouteEntry) (last : Option Int) : Prop where
  entryBefore : table[i - 1]? = some before
  lastSegment : ∀ a, LastSegment table i a ↔ last = some a
  noSegment : last = none → ∀ e ∈ table.take i, e.isSegment = false
  passed : ∀ j < i, ¬ Offends table j

theorem ScannedTo.succ {before : RouteEntry} {last : Option Int} (h : ScannedTo table i before last)
    (here : table[i]? = some e) (passes : ¬ Offends table i) : ScannedTo table (i + 1) e (e.lastStart last) := by
  refine ⟨here, lastSegment_succ here h.lastSegment, fun hnone x hx => ?_, fun j hj => ?_⟩
  · obtain ⟨noStart, hseg⟩ : last = none ∧ e.isSegment = false := by
      cases hseg : e.isSegment <;> simp_all [RouteEntry.lastStart]
    rw [List.take_add_one, here, List.mem_append] at hx
    rcases hx with hx | hx
    · exact h.noSegment noStart x hx
    · obtain rfl : x = e := by simpa using hx
      exact hseg
  · rcases (Nat.lt_succ_iff.1 hj).eq_or_lt with rfl | hlt
    · exact passes
    · exact h.passed j hlt

/-- What the scan answers from index `i` on is the table's first offending entry; if nothing, no entry offends. -/
theorem ScannedTo.scanRoute (rest : List RouteEntry) {before : RouteEntry} {last : Option Int} (hi : 1 ≤ i)
    (h : ScannedTo table i before last) (hrest : table.drop i = rest) :
    (∃ k, Machine.scanRoute before last i rest = some k ∧ FirstOffending table k) ∨
      (Machine.scanRoute before last i rest = none ∧ ∀ j, ¬ Offends table j) := by
  induction rest generalizing i before last with
  | nil =>
    have whole : table.length ≤ i := List.drop_eq_nil_iff.1 hrest
    have allPass : ∀ j, ¬ Offends table j := fun j hj => h.passed j (hj.lt_length.trans_le whole) hj
    rw [scanRoute_nil]
    by_cases hlast : last = none
    · have atEnd : i = table.length := by
        have := (List.getElem?_eq_some_iff.1 h.entryBefore).1
        omega
      have noSegment := h.noSegment hlast
      rw [List.take_of_length_le whole] at noSegment
      exact .inl ⟨i, if_pos hlast, .inr ⟨allPass, noSegment, atEnd⟩⟩
    · exact .inr ⟨if_neg hlast, allPass⟩
  | cons e rest ih =>
    have here : table[i]? = some e := by
      have := congrArg (·[0]?) hrest
      simpa using this
    have offends := offends_iff_falls hi h.entryBefore here h.lastSegment
    by_cases hfalls : before.Falls last e
    · exact .inl ⟨i, scanRoute_cons_of_falls hfalls i rest, .inl ⟨offends.2 hfalls, h.passed⟩⟩
    · rw [scanRoute_cons_of_not_falls hfalls]
      refine ih (Nat.le_add_left 1 i) (h.succ here fun k => hfalls (offends.1 k)) ?_
      rw [← List.tail_drop, hrest, List.tail_cons]

end

/-- Validation answers the first offending entry, or nothing if no entry offends (R111). -/
theorem firstOffending_cases (table : List RouteEntry) :
    (∃ k, firstOffending table = some k ∧ FirstOffending table k) ∨
      (firstOffending table = none ∧ ∀ j, ¬ Offends table j) := by
  have noneBefore : ¬ Offends table 0 := fun ⟨_, _, h, _⟩ => absurd h (by decide)
  cases table with
  | nil => exact .inl ⟨0, rfl, .inr ⟨fun j hj => absurd hj.lt_length (Nat.not_lt_zero j), by simp, rfl⟩⟩
  | cons e rest =>
    refine ScannedTo.scanRoute rest le_rfl ⟨rfl, ?_, ?_, ?_⟩ rfl
    · exact lastSegment_succ rfl fun a => iff_of_false lastSegment_zero nofun
    · intro hnone x hx
      obtain rfl : x = e := by simpa using hx
      cases hseg : x.isSegment with
      | false => rfl
      | true => simp [hseg] at hnone
    · intro j hj
      rwa [Nat.lt_one_iff.1 hj]

theorem firstOffending_eq_some_iff (table : List RouteEntry) (i : Nat) :
    firstOffending table = some i ↔ FirstOffending table i := by
  rcases firstOffending_cases table with ⟨k, found, first⟩ | ⟨valid, allPass⟩
  · rw [found, Option.some.injEq]
    exact ⟨fun e => e ▸ first, first.unique⟩
  · rw [valid]
    refine iff_of_false nofun ?_
    rintro (⟨offends, -⟩ | ⟨-, noSegment, -⟩)
    · exact allPass i offends
    · obtain ⟨-, -, e, he, hseg⟩ := (firstOffending_eq_none_iff table).1 valid
      rw [noSegment e he] at hseg
      cases hseg

/-! ### A plain lookup -/

/-- No SEGMENT that starts at or below `c` starts above `a`. -/
def GreatestStart (table : List RouteEntry) (c a : Int) : Prop :=
  ∀ e ∈ table, e.isSegment = true → e.chainage ≤ c → e.chainage ≤ a

/-- A SEGMENT is taken as the best so far if it starts at or below `c` and above the best before. -/
theorem lookupFrom_segment_of_better {c start : Int} {best : Option (Nat × Int)} (hc : start ≤ c)
    (better : ∀ p, best = some p → p.2 < start) (i : Nat) (slot : Option SlotId) (margin : Option Nat)
    (rest : List RouteEntry) :
    lookupFrom c i best (.segment start slot margin :: rest) = lookupFrom c (i + 1) (some (i, start)) rest := by
  cases best with
  | none => simp [lookupFrom, hc]
  | some p => simp [lookupFrom, hc, better p rfl]

theorem lookupFrom_segment_of_not_better {c start : Int} {best : Option (Nat × Int)}
    (passed : start ≤ c → ∃ p, best = some p ∧ start ≤ p.2) (i : Nat) (slot : Option SlotId) (margin : Option Nat)
    (rest : List RouteEntry) :
    lookupFrom c i best (.segment start slot margin :: rest) = lookupFrom c (i + 1) best rest := by
  refine congrArg (lookupFrom c (i + 1) · rest) (if_neg ?_)
  rintro ⟨hc, better⟩
  obtain ⟨p, rfl, hp⟩ := passed hc
  exact absurd (of_decide_eq_true better) (not_lt.2 hp)

/-- What a lookup gives from index `i` on: a SEGMENT of the list that starts highest and above the best before, or the
best before, which no SEGMENT of the list exceeds. -/
theorem lookupFrom_cases (table : List RouteEntry) (c : Int) (i : Nat) (best : Option (Nat × Int)) :
    (∃ k e, lookupFrom c i best table = some (i + k, e.chainage) ∧ table[k]? = some e ∧ e.isSegment = true ∧
      e.chainage ≤ c ∧ GreatestStart table c e.chainage ∧ ∀ p, best = some p → p.2 < e.chainage) ∨
    (lookupFrom c i best table = best ∧
      ∀ e ∈ table, e.isSegment = true → e.chainage ≤ c → ∃ p, best = some p ∧ e.chainage ≤ p.2) := by
  induction table generalizing i best with
  | nil => exact .inr ⟨rfl, by simp⟩
  | cons x rest ih =>
    cases x with
    | reference r label =>
      rcases ih (i + 1) best with ⟨k, e, found, here, hseg, hc, greatest, above⟩ | ⟨kept, below⟩
      · exact .inl ⟨k + 1, e, by rw [lookupFrom, found, Nat.add_right_comm]; rfl, here, hseg, hc,
          List.forall_mem_cons.2 ⟨nofun, greatest⟩, above⟩
      · exact .inr ⟨kept, List.forall_mem_cons.2 ⟨nofun, below⟩⟩
    | segment start slot margin =>
      by_cases better : start ≤ c ∧ ∀ p, best = some p → p.2 < start
      · obtain ⟨startLe, exceeds⟩ := better
        rw [lookupFrom_segment_of_better startLe exceeds]
        rcases ih (i + 1) (some (i, start)) with ⟨k, e, found, here, hseg, hc, greatest, above⟩ | ⟨kept, below⟩
        · have higher : start < e.chainage := above _ rfl
          exact .inl ⟨k + 1, e, by rw [found, Nat.add_right_comm]; rfl, here, hseg, hc,
            List.forall_mem_cons.2 ⟨fun _ _ => higher.le, greatest⟩, fun p hp => (exceeds p hp).trans higher⟩
        · refine .inl ⟨0, .segment start slot margin, kept, rfl, rfl, startLe,
            List.forall_mem_cons.2 ⟨fun _ _ => le_rfl, ?_⟩, exceeds⟩
          intro e he hseg hc
          obtain ⟨p, hp, le⟩ := below e he hseg hc
          cases hp
          exact le
      · have passed : start ≤ c → ∃ p, best = some p ∧ start ≤ p.2 := by simpa using better
        rw [lookupFrom_segment_of_not_better passed]
        rcases ih (i + 1) best with ⟨k, e, found, here, hseg, hc, greatest, above⟩ | ⟨kept, below⟩
        · refine .inl ⟨k + 1, e, by rw [found, Nat.add_right_comm]; rfl, here, hseg, hc,
            List.forall_mem_cons.2 ⟨fun _ startLe => ?_, greatest⟩, above⟩
          obtain ⟨p, hp, startLe⟩ := passed startLe
          exact startLe.trans (above p hp).le
        · exact .inr ⟨kept, List.forall_mem_cons.2 ⟨fun _ => passed, below⟩⟩

/-- Where the SEGMENT starts rise, no two SEGMENTs start at one chainage. -/
theorem segment_index_unique {table : List RouteEntry} (rises : (segmentStarts table).Pairwise (· < ·)) {i k : Nat}
    {e x : RouteEntry} (hi : table[i]? = some e) (hk : table[k]? = some x) (he : e.isSegment = true)
    (hx : x.isSegment = true) (same : e.chainage = x.chainage) : i = k := by
  rw [segmentStarts, List.pairwise_map, List.pairwise_filter, List.pairwise_iff_getElem] at rises
  obtain ⟨ilt, rfl⟩ := List.getElem?_eq_some_iff.1 hi
  obtain ⟨klt, rfl⟩ := List.getElem?_eq_some_iff.1 hk
  rcases lt_trichotomy i k with hlt | heq | hgt
  · exact absurd same (rises i k ilt klt hlt he hx).ne
  · exact heq
  · exact absurd same (rises k i klt ilt hgt hx he).ne'

/-- A plain lookup in a table that passes validation (R113). -/
theorem lookup_eq_some_iff {table : List RouteEntry} (rises : (segmentStarts table).Pairwise (· < ·)) {c : Int}
    {i : Nat} :
    lookup table c = some i ↔
      ∃ e, table[i]? = some e ∧ e.isSegment = true ∧ e.chainage ≤ c ∧ GreatestStart table c e.chainage := by
  rcases lookupFrom_cases table c 0 none with ⟨k, e, found, here, hseg, hc, greatest, -⟩ | ⟨kept, below⟩
  · rw [lookup, found, Option.map_some, Nat.zero_add, Option.some.injEq]
    constructor
    · rintro rfl
      exact ⟨e, here, hseg, hc, greatest⟩
    · rintro ⟨x, hx, hxseg, hxc, hxgreatest⟩
      have same := le_antisymm (hxgreatest e (List.mem_of_getElem? here) hseg hc)
        (greatest x (List.mem_of_getElem? hx) hxseg hxc)
      exact segment_index_unique rises here hx hseg hxseg same
  · rw [lookup, kept]
    refine iff_of_false nofun ?_
    rintro ⟨x, hx, hxseg, hxc, -⟩
    obtain ⟨p, hp, -⟩ := below x (List.mem_of_getElem? hx) hxseg hxc
    cases hp

theorem RouteEntry.isSegment_iff {e : RouteEntry} : e.isSegment = true ↔ ∃ a slot margin, e = .segment a slot margin := by
  cases e <;> simp [RouteEntry.isSegment]

/-- The greatest start, by the places of the SEGMENTs. -/
theorem greatestStart_iff {table : List RouteEntry} {c a : Int} :
    GreatestStart table c a ↔
      ∀ (j : Nat) b slot margin, table[j]? = some (RouteEntry.segment b slot margin) → b ≤ c → b ≤ a := by
  constructor
  · exact fun h j b slot margin hj => h _ (List.mem_of_getElem? hj) rfl
  · intro h e he hseg
    obtain ⟨j, hj⟩ := List.getElem?_of_mem he
    obtain ⟨b, slot, margin, rfl⟩ := RouteEntry.isSegment_iff.1 hseg
    exact h j b slot margin hj

/-- Settles O48: the scan by `firstOffending_eq_none_iff` and `firstOffending_eq_some_iff`, the lookup by
`lookup_eq_some_iff`. -/
theorem routeValidation : Obligations.RouteValidation := by
  intro table
  refine ⟨firstOffending_eq_none_iff table, firstOffending_eq_some_iff table, fun valid c i => ?_⟩
  obtain ⟨-, rises, -⟩ := (firstOffending_eq_none_iff table).1 valid
  rw [lookup_eq_some_iff rises]
  constructor
  · rintro ⟨e, here, hseg, hc, greatest⟩
    obtain ⟨a, slot, margin, rfl⟩ := RouteEntry.isSegment_iff.1 hseg
    exact ⟨a, slot, margin, here, hc, greatestStart_iff.1 greatest⟩
  · rintro ⟨a, slot, margin, here, hc, greatest⟩
    exact ⟨_, here, rfl, hc, greatestStart_iff.2 greatest⟩

end Sys2Proof.Machine
end

section
/-! SUPPORT. A head frame received in sequence, and what a full event queue makes of the records that reach it, fault
entry's among them (R3, R4, R140, R142, R158, R174). -/

namespace Sys2Proof.Machine

/-! ### A full event queue keeps its records -/

/-- The event queue holds `es` and has no room for more. -/
structure Work.Full (es : List EventRecord) (w : Work) : Prop where
  events : w.st.link.events = es
  full : Config.maxEvents ≤ es.length

namespace Work.Full

variable {es : List EventRecord} {w w' : Work}

theorem of_not_room {s : State} {x : Option Cause} (h : ¬ s.room 1) : (Work.mk s x).Full s.link.events :=
  ⟨rfl, by unfold State.room at h; omega⟩

theorem not_room (h : w.Full es) : ¬ w.st.room 1 := by
  unfold State.room
  rw [h.events]
  have := h.full
  omega

theorem modify (h : w.Full es) {f : State → State} (same : (f w.st).link.events = w.st.link.events) :
    (w.modify f).Full es :=
  ⟨same.trans h.events, h.full⟩

theorem ite {c : Prop} [Decidable c] (h : w.Full es) (h' : w'.Full es) : (if c then w else w').Full es := by
  split
  · exact h
  · exact h'

theorem foldl {α : Type} {f : Work → α → Work} (hf : ∀ (w : Work) (x : α), w.Full es → (f w x).Full es)
    (xs : List α) (h : w.Full es) : (xs.foldl f w).Full es := by
  induction xs generalizing w with
  | nil => exact h
  | cons x xs ih => exact ih (hf w x h)

theorem markFatal (h : w.Full es) (c : Cause) : (w.markFatal c).Full es :=
  ⟨by rw [Work.markFatal_st, h.events], h.full⟩

theorem queue (h : w.Full es) (b : EventBody) : (w.queue b).Full es := by
  rw [Work.queue_full b h.not_room]
  exact (h.markFatal _).modify rfl

theorem raise (h : w.Full es) (c : Cause) : (w.raise c).Full es := by
  have marked : (if c.cls = .fatal then w.markFatal c else w).Full es := .ite (h.markFatal c) h
  have flagged := marked.modify (f := fun s => s.withCauses (setFlag s.causes c)) rfl
  exact .ite marked (.ite (flagged.queue _) flagged)

theorem raiseIf (h : w.Full es) (b : Bool) (c : Cause) : (w.raiseIf b c).Full es := .ite (h.raise c) h

theorem queueMark (h : w.Full es) (r : RingContext) (x : RingStatus) : (w.queueMark r x).Full es := by
  unfold Work.queueMark
  split
  · exact h.queue _
  · exact h

theorem cancelFix (h : w.Full es) : w.cancelFix.Full es := by
  unfold Work.cancelFix
  split
  · exact .queue (h.modify rfl) _
  · exact h

theorem closeAll (h : w.Full es) (why : CloseCause) (c : Int) : (w.closeAll why c).Full es :=
  .modify (foldl (fun _ _ hw => hw.queue _) _ h) rfl

theorem takeLive (h : w.Full es) : w.takeLive.Full es :=
  foldl (fun _ _ hw => .raiseIf (hw.modify rfl) _ _) _ (.modify (h.modify rfl) rfl)

theorem abandonRing (h : w.Full es) : w.abandonRing.Full es := by
  unfold Work.abandonRing
  split
  · exact .queueMark (h.modify (by rw [State.dropProfile_frame])) _ _
  · exact h

theorem leaveRunning (h : w.Full es) : w.leaveRunning.Full es := by
  have left := ((h.abandonRing.modify (f := fun s => s.withRing { s.ring with asm := .inactive, stall := none })
    rfl).modify (f := State.commitWaiting) rfl).modify
      (f := fun s => s.withTracker { s.tracker with alert := false }) rfl
  exact .ite left.takeLive left

/-- Fault entry with the queue full loses every record of its own (R140, R142). -/
theorem faultEntry (h : w.Full es) (c : Cause) : (w.faultEntry c).Full es := by
  have recorded := h.modify (f := fun s => s.withCtrl { s.ctrl with
    faultRecord := some { cause := c, ringSeq := s.ring.ringSeq, chainage := w.st.chainage } }) rfl
  unfold Work.faultEntry
  exact .modify (.queue (.closeAll (.cancelFix (.ite recorded.leaveRunning recorded)) _ _) _) rfl

theorem settle (h : w.Full es) : w.settle.Full es := by
  unfold Work.settle
  split
  · exact h
  · split
    · exact ⟨(h.faultEntry _).events, h.full⟩
    · exact ⟨h.events, h.full⟩

end Work.Full

/-! ### A record lost -/

section
variable {s : State}

/-- In IDLE and FAULT the loss of a record is recorded only (R142). -/
theorem Work.lose_of_ended {x : Option Cause} (hrun : s.ctrl.run = .idle ∨ s.ctrl.run = .fault) :
    (Work.mk s x).lose = Work.mk (s.withCauses (setFlag s.causes .eventLoss)) x := by
  have ended : ¬ (s.ctrl.run = .running ∨ s.ctrl.run = .paused) := by rcases hrun with h | h <;> simp [h]
  simp [Work.lose, Work.markFatal, ended]

/-- In RUNNING and PAUSED it is a fatal cause in hand (R140, R158). -/
theorem Work.lose_of_active (hrun : s.ctrl.run = .running ∨ s.ctrl.run = .paused) :
    (Work.mk s none).lose = Work.mk (s.withCauses (setFlag s.causes .eventLoss)) (some .eventLoss) := by
  simp [Work.lose, Work.markFatal, hrun]

/-- A fatal cause in hand in RUNNING or PAUSED is taken by fault entry (R140). -/
theorem Work.settle_faulted {c : Cause} (hrun : s.ctrl.run = .running ∨ s.ctrl.run = .paused) :
    s.Faulted c (Work.mk s (some c)).settle.st := by
  rcases (Work.mk s (some c)).settle_cases with ⟨-, notInHand | ended⟩ | ⟨_, inHand, -, entered⟩
  · cases notInHand
  · exact absurd hrun ended
  · cases inHand
    exact entered

end

/-! ### A frame in sequence -/

theorem satAdd_zero (top n : Nat) : satAdd top n 0 = n := by
  unfold satAdd
  omega

/-- A gap of no frames leaves the frames missing as they are (R4). -/
theorem State.addMissing_zero (s : State) : s.addMissing 0 = s := by
  unfold State.addMissing
  split
  · next opened => simp only [satAdd_zero, ← opened, State.withRing]
  · rfl

/-- A frame whose sequence follows the last one reveals no gap (R4). -/
theorem Work.checkGap_of_inSequence {s : State} {x : Option Cause} {seq : Byte}
    (h : s.head.lastSeq = some (seq - 1)) :
    (Work.mk s x).checkGap seq = Work.mk (s.withHead { s.head with badRun := 0, lastSeq := some seq }) x := by
  have noGap : s.head.gap seq = 0 := by simp [HeadLink.gap, h]
  simp [Work.checkGap, noGap, State.addMissing_zero]

/-- In LOCKED such a frame is handed over with no cause raised for it (R3, R4). -/
theorem Work.goodFrame_of_inSequence {s : State} {seq : Byte} {f : HeadFrame} (locked : s.head.lock = .locked)
    (h : s.head.lastSeq = some (seq - 1)) :
    (Work.mk s none).goodFrame seq f =
      (Work.mk (s.withHead { s.head with badRun := 0, lastSeq := some seq }) none).handOver f := by
  simp only [Work.goodFrame, locked, Work.checkGap_of_inSequence h, Work.settle_mk]

/-- A frame received in sequence is counted and handed over, and nothing else comes of it (R3, R4). -/
theorem State.Receives.exec_eq {s : State} {frame : List Byte} {seq : Byte} {f : HeadFrame}
    (h : s.Receives frame seq f) :
    exec (.headFrameGood (framed frame)) s = ((Work.mk (s.counted seq) none).handOver f).done :=
  (execHeadFrameGood_framed s frame seq f h.symbols h.between h.content).trans
    (congrArg Work.done (Work.goodFrame_of_inSequence h.locked h.inSequence))

/-! ### Head notes -/

section
variable {s : State} {x : Option Cause} (bytes : List Byte)

/-- With head_notes 0 a head note is ignored (R174). -/
theorem Work.headNote_of_off (h : s.eff Param.headNotes ≠ 1) : (Work.mk s x).headNote bytes = Work.mk s x := if_neg h

/-- With head_notes 1 it is queued (R174). -/
theorem Work.headNote_of_room (h : s.eff Param.headNotes = 1) (hroom : s.room 1) :
    (Work.mk s x).headNote bytes = Work.mk (s.recorded (.headNote bytes)) x :=
  (if_pos h).trans (Work.queue_mk _ hroom)

/-- With no room for it, it is lost (R158). -/
theorem Work.headNote_of_full (h : s.eff Param.headNotes = 1) (full : ¬ s.room 1) :
    (Work.mk s x).headNote bytes = (Work.mk s x).lose :=
  (if_pos h).trans (Work.queue_full _ full)

end

/-- Settles O23: the frame is handed over as `State.Receives.exec_eq` has it, and the note is queued, ignored or lost;
a loss that ends the run is a fault entry over a full queue, by `Work.settle_faulted` and `Work.Full.settle`. -/
theorem headNoteQueuedOrLost : Obligations.HeadNoteQueuedOrLost := by
  intro s frame seq bytes received
  rw [show exec (.headFrameGood (framed frame)) s = ((Work.mk (s.counted seq) none).headNote bytes).done from
    received.exec_eq]
  refine ⟨fun on room => ?_, fun off => ?_, fun on full ended => ?_, fun on full active => ?_⟩
  · rw [Work.headNote_of_room (s := s.counted seq) bytes on room, Work.done_mk]
  · rw [Work.headNote_of_off (s := s.counted seq) bytes off, Work.done_mk]
  · rw [Work.headNote_of_full (s := s.counted seq) bytes on full, Work.lose_of_ended (s := s.counted seq) ended,
      Work.done_mk]
    rfl
  · rw [Work.headNote_of_full (s := s.counted seq) bytes on full, Work.lose_of_active (s := s.counted seq) active]
    set u := (s.counted seq).withCauses (setFlag (s.counted seq).causes .eventLoss)
    have entered : u.Faulted .eventLoss (Work.mk u (some .eventLoss)).settle.st := Work.settle_faulted active
    have kept : (Work.mk u (some .eventLoss)).settle.Full u.link.events :=
      (Work.Full.of_not_room (s := u) full).settle
    exact ⟨_, Work.done_eq _, congrArg RunController.run entered.ctrl, kept.events,
      congrArg RunController.faultRecord entered.ctrl, Work.settle_frame _⟩

end Sys2Proof.Machine
end

section
/-! SUPPORT. The Run Controller after a power-on reset (R145), and a START that the head link or the route refuses
(R131). -/

namespace Sys2Proof.Machine

/-- Settles O12: the Run Controller's fields are the power-on state's own, max_gap is its parameter's default (R133). -/
theorem powerOnRunController : Obligations.PowerOnRunController := by
  intro s
  have maxGap : defaultParams[Param.maxGap] = 1000 := by
    simp only [defaultParams, Fin.getElem_fin, Vector.getElem_ofFn]
    rfl
  exact ⟨_, rfl, rfl, maxGap, rfl, fun c => BitVec.getLsbD_zero⟩

section
variable {r : Request} {w : Work}

/-- In IDLE a START is refused while the receiver is SEARCHING, whatever the route (R131). -/
theorem start_of_searching (hlen : r.payload.length = 4) (hrun : w.st.ctrl.run = .idle)
    (hlock : w.st.head.lock = .searching) : start r w = w.refuse r .headUnlocked none := by
  obtain ⟨v0, v1, v2, v3, hp⟩ := List.length_eq_four.1 hlen
  simp [start, hp, hrun, hlock]

/-- With the head link LOCKED it is refused for an invalid route, with the first offending entry's index (R131). -/
theorem start_of_offending {i : Nat} (hlen : r.payload.length = 4) (hrun : w.st.ctrl.run = .idle)
    (hlock : w.st.head.lock = .locked) (hroute : firstOffending w.st.route.entries = some i) :
    start r w = w.refuse r .routeInvalid (some i) := by
  obtain ⟨v0, v1, v2, v3, hp⟩ := List.length_eq_four.1 hlen
  simp [start, hp, hrun, hlock, hroute]

end

/-- Settles O50: the two refusals, each by `State.Offers.exec_of_refuse`. -/
theorem startRefused : Obligations.StartRefused := by
  intro s r rest offers hlen hrun hroom
  exact ⟨fun hlock => offers.exec_of_refuse hroom (start_of_searching hlen hrun hlock),
    fun i hlock hroute => offers.exec_of_refuse hroom (start_of_offending hlen hrun hlock hroute)⟩

end Sys2Proof.Machine
end

section
/-! SUPPORT. The parameter table and its adjustments (§8.6, R152), what a LIVE taking lists and reports when the event
queue has room (R150 to R153), and accepted SET_PARAM and GET_PARAM requests (R148, R149). -/

namespace Sys2Proof.Machine

/-! ### The table and the adjustments -/

theorem readParamId_eq_some {id : Byte} {p : ParamId} (h : id.toNat = p.val + 1) : readParamId id = some p := by
  rw [readParamId, paramOfId, dif_pos (by omega)]
  exact congrArg some (Fin.ext (by simp [h]))

theorem byte_idNumber {id : Byte} {p : ParamId} (h : id.toNat = p.val + 1) : byte (idNumber p) = id := by
  rw [byte, idNumber, ← h, BitVec.ofNat_toNat, BitVec.setWidth_eq]

theorem paramRow_of_id {n : Nat} {p : ParamId} (h : n = p.val + 1) : paramRow p = rowOfId n := by rw [h]; rfl

/-- Ids 3 to 18 are the walk values. -/
theorem rowOfId_walk {n : Nat} (hlo : 3 ≤ n) (hhi : n ≤ 18) : rowOfId n = ⟨.run, 0, .clampTo (-512) 511⟩ := by
  interval_cases n <;> rfl

theorem ParamRow.admits_iff (r : ParamRow) (v : Int) : r.admits v = true ↔
    match r.adj with
    | .clampTo lo hi => lo ≤ v ∧ v ≤ hi
    | .reduceMod m => 0 ≤ v ∧ v < m
    | .codes n => 0 ≤ v ∧ v < n
    | .mask => 0 ≤ v ∧ v ≤ 15 := by
  obtain ⟨cls, default, adj⟩ := r
  cases adj with
  | clampTo | reduceMod | codes => exact decide_eq_true_iff
  | mask => exact decide_eq_true_iff.trans (by omega)

/-- To clamp is to go to the nearer end. -/
theorem clamp_eq {lo hi : Int} (h : lo ≤ hi) (v : Int) : clamp lo hi v = max lo (min hi v) := by
  unfold clamp
  split_ifs <;> omega

theorem clamp_ne_self_iff {lo hi : Int} (h : lo ≤ hi) (v : Int) : clamp lo hi v ≠ v ↔ v < lo ∨ hi < v := by
  rw [clamp_eq h]
  omega

theorem emod_ne_self_iff {m : Int} (h : 0 < m) (v : Int) : v % m ≠ v ↔ v < 0 ∨ m ≤ v := by
  have nonneg := Int.emod_nonneg v h.ne'
  have small := Int.emod_lt_of_pos v h
  have kept : 0 ≤ v → v < m → v % m = v := Int.emod_eq_of_lt
  omega

/-- One value adjusted by its row, where the row's default is itself admitted (R152). -/
theorem adjustOwn_eq {r : ParamRow} (h : r.admits r.default = true) (v : Int) :
    adjustOwn r v =
      match r.adj with
      | .clampTo a b => (max a (min b v), decide (v < a ∨ b < v))
      | .reduceMod m => (v % m, decide (v < 0 ∨ m ≤ v))
      | .codes n => if 0 ≤ v ∧ v < n then (v, false) else (r.default, true)
      | .mask => (v % 16, false) := by
  rw [ParamRow.admits_iff] at h
  obtain ⟨cls, default, adj⟩ := r
  cases adj with
  | clampTo lo hi =>
    have ordered : lo ≤ hi := h.1.trans h.2
    exact Prod.ext (clamp_eq ordered v) (decide_eq_decide.2 (clamp_ne_self_iff ordered v))
  | reduceMod m =>
    have positive : 0 < m := lt_of_le_of_lt h.1 h.2
    exact Prod.ext rfl (decide_eq_decide.2 (emod_ne_self_iff positive v))
  | codes n => rfl
  | mask => rfl

/-- min_range and max_range take their defaults where their clamped values are out of order (R152). -/
theorem pairDefaulted_iff (image : Vector Int 46) : pairDefaulted image = true ↔
    max 1 (min 65534 image[Param.maxRange]) ≤ max 0 (min 65534 image[Param.minRange]) := by
  rw [pairDefaulted, adjustOwn_eq (paramRow_admits_default _), adjustOwn_eq (paramRow_admits_default _)]
  exact decide_eq_true_iff

theorem adjusted_of_pairDefaulted {image : Vector Int 46} {p : ParamId} (hp : p = Param.minRange ∨ p = Param.maxRange)
    (h : pairDefaulted image = true) : adjusted image p = ((paramRow p).default, true) := if_pos ⟨hp, h⟩

theorem adjusted_of_own {image : Vector Int 46} {p : ParamId}
    (h : pairDefaulted image = false ∨ (p ≠ Param.minRange ∧ p ≠ Param.maxRange)) :
    adjusted image p = adjustOwn (paramRow p) image[p] := by
  refine if_neg fun ⟨pair, defaulted⟩ => ?_
  rcases h with ordered | ⟨notMin, notMax⟩
  · rw [ordered] at defaulted
    cases defaulted
  · exact pair.elim notMin notMax

/-! ### What a taking lists -/

theorem ParamStore.foldl_takeOne_image (ids : List ParamId) (ps : ParamStore) :
    (ids.foldl ParamStore.takeOne ps).image = ps.image := (ParamStore.foldl_takeOne ids ps).1

theorem ParamStore.foldl_takeOne_effect (ids : List ParamId) (ps : ParamStore) (q : ParamId) :
    (ids.foldl ParamStore.takeOne ps).effect[q] = if q ∈ ids then (adjusted ps.image q).1 else ps.effect[q] :=
  (ParamStore.foldl_takeOne ids ps).2.2.1 q

/-- While the adjusted list has room, each adjustment is listed in its turn and none is only counted (R153). -/
theorem ParamStore.foldl_takeOne_listed (ids : List ParamId) (ps : ParamStore)
    (fits : ps.adjustedIds.length + (ids.filter fun p => (adjusted ps.image p).2).length ≤ Config.maxAdjusted) :
    (ids.foldl ParamStore.takeOne ps).adjustedIds =
      ps.adjustedIds ++ (ids.filter fun p => (adjusted ps.image p).2).map idNumber ∧
    (ids.foldl ParamStore.takeOne ps).further = ps.further := by
  induction ids generalizing ps with
  | nil => simp
  | cons p ids ih =>
    rw [List.foldl_cons]
    by_cases hp : (adjusted ps.image p).2 = true
    · rw [List.filter_cons_of_pos (by exact hp), List.length_cons] at fits
      have room : ps.adjustedIds.length < Config.maxAdjusted := by omega
      have listed : ps.takeOne p = { ps with
          effect := ps.effect.set p (adjusted ps.image p).1, adjustedIds := ps.adjustedIds ++ [idNumber p] } := by
        simp only [ParamStore.takeOne, hp, if_true, ParamStore.listAdjusted, room]
      obtain ⟨ids_eq, further_eq⟩ := ih (ps.takeOne p) (by
        simp only [listed, List.length_append, List.length_singleton]
        omega)
      rw [ids_eq, further_eq, takeOne_image, List.filter_cons_of_pos (by exact hp), listed]
      simp
    · rw [List.filter_cons_of_neg (by exact hp)] at fits ⊢
      have quiet : ps.takeOne p = { ps with effect := ps.effect.set p (adjusted ps.image p).1 } := by
        simp only [ParamStore.takeOne, hp, if_false, Bool.false_eq_true]
      obtain ⟨ids_eq, further_eq⟩ := ih (ps.takeOne p) (by rw [quiet]; exact fits)
      rw [ids_eq, further_eq, takeOne_image, quiet]
      exact ⟨rfl, rfl⟩

theorem adjustedIn_live (image : Vector Int 46) :
    adjustedIn image .live = (idsOf ParamClass.isLive).filter fun p => (adjusted image p).2 := by
  rw [adjustedIn, idsOf, List.filter_filter]
  exact List.filter_congr fun p _ => Bool.and_comm _ _

/-- The store as a full LIVE taking begins (R151, R153). -/
def ParamStore.liveBegun (ps : ParamStore) : ParamStore :=
  { ps with adjustedIds := [], further := 0, liveWaiting := false }

/-- The store after a full LIVE taking (R150, R151, R153). -/
def ParamStore.liveTaken (ps : ParamStore) : ParamStore :=
  { ps with effect := ps.taken .live, adjustedIds := (adjustedIn ps.image .live).map idNumber, further := 0
            liveWaiting := false }

theorem Work.takeLive_eq (s : State) (f : Option Cause) :
    (Work.mk s f).takeLive =
      (idsOf ParamClass.isLive).foldl (Work.takeOne true) { st := s.withParams s.params.liveBegun, fatal := f } := rfl

theorem ParamStore.foldl_takeOne_effect_live (ps : ParamStore) :
    ((idsOf ParamClass.isLive).foldl ParamStore.takeOne ps).effect = ps.taken .live := by
  refine Vector.ext fun i hi => ?_
  have at_i := ParamStore.foldl_takeOne_effect (idsOf ParamClass.isLive) ps ⟨i, hi⟩
  simp only [Fin.getElem_fin, mem_idsOf, ParamClass.isLive, decide_eq_true_eq] at at_i
  simpa [ParamStore.taken] using at_i

/-- The LIVE class is six parameters, so its adjustments all fit the adjusted list. -/
theorem ParamStore.foldl_takeOne_live (ps : ParamStore) :
    (idsOf ParamClass.isLive).foldl ParamStore.takeOne ps.liveBegun = ps.liveTaken := by
  have six : (idsOf ParamClass.isLive).length = 6 := by decide
  have most := List.length_filter_le (fun p => (adjusted ps.image p).2) (idsOf ParamClass.isLive)
  obtain ⟨listed, further⟩ := ParamStore.foldl_takeOne_listed (idsOf ParamClass.isLive) ps.liveBegun (by
    change 0 + List.length _ ≤ 8
    exact (Nat.zero_add _).le.trans (most.trans (by omega)))
  obtain ⟨image, waiting, -, -⟩ := ParamStore.foldl_takeOne (idsOf ParamClass.isLive) ps.liveBegun
  have effect := ps.liveBegun.foldl_takeOne_effect_live
  rw [← adjustedIn_live] at listed
  generalize (idsOf ParamClass.isLive).foldl ParamStore.takeOne ps.liveBegun = after at *
  obtain ⟨_, _, _, _, _⟩ := after
  simp only at image waiting effect listed further
  rw [image, waiting, effect, listed, further]
  rfl

/-! ### What a taking reports -/

@[simp] theorem State.withParams_withParams (s : State) (a b : ParamStore) :
    (s.withParams a).withParams b = s.withParams b := rfl

/-- A report reads of the parameters report_enable in effect alone (R178). -/
theorem State.withParams_reported {s : State} {ps : ParamStore} (c : Cause)
    (h : ps.effect[Param.reportEnable] = s.eff Param.reportEnable) :
    (s.withParams ps).reported c = (s.reported c).withParams ps := by
  have enabled : (s.withParams ps).reports c.cls = s.reports c.cls := congrArg (classEnabled · c.cls) h
  simp only [State.reported, enabled, State.withParams_causes]
  split_ifs <;> rfl

/-- Parameters taken one after another report nothing where none is adjusted or PARAM_ADJUSTED is set already (R153,
R177). -/
theorem Work.foldl_takeOne_of_silent (ids : List ParamId) (s : State) (f : Option Cause)
    (silent : flagSet s.causes .paramAdjusted = true ∨ ∀ p ∈ ids, (adjusted s.params.image p).2 = false) :
    ids.foldl (Work.takeOne true) { st := s, fatal := f } =
      { st := s.withParams (ids.foldl ParamStore.takeOne s.params), fatal := f } := by
  induction ids generalizing s with
  | nil => rfl
  | cons p ids ih =>
    have first : Work.takeOne true { st := s, fatal := f } p =
        { st := s.withParams (s.params.takeOne p), fatal := f } := by
      simp only [Work.takeOne, Bool.true_and]
      rcases silent with set | none_adjusted
      · cases (adjusted s.params.image p).2 with
        | false => rfl
        | true => exact Work.raise_of_set (by decide) set
      · rw [none_adjusted p List.mem_cons_self]
        rfl
    rw [List.foldl_cons, List.foldl_cons, first, ih]
    · rfl
    · refine silent.imp id fun none_adjusted q hq => ?_
      rw [State.withParams_params, ParamStore.takeOne_image]
      exact none_adjusted q (List.mem_cons_of_mem p hq)

/-- With room, the first adjustment is reported in the state its own taking leaves; the later ones find the flag set. -/
theorem Work.foldl_takeOne_of_first {s : State} (f : Option Cause) {before after : List ParamId} {p : ParamId}
    (hroom : s.room 1) (hbefore : ∀ q ∈ before, (adjusted s.params.image q).2 = false)
    (hp : (adjusted s.params.image p).2 = true) :
    (before ++ p :: after).foldl (Work.takeOne true) { st := s, fatal := f } =
      { st := ((s.withParams ((before ++ [p]).foldl ParamStore.takeOne s.params)).reported .paramAdjusted).withParams
          ((before ++ p :: after).foldl ParamStore.takeOne s.params), fatal := f } := by
  have image := ParamStore.foldl_takeOne_image before s.params
  have first : Work.takeOne true { st := s.withParams (before.foldl ParamStore.takeOne s.params), fatal := f } p =
      { st := (s.withParams ((before.foldl ParamStore.takeOne s.params).takeOne p)).reported .paramAdjusted,
        fatal := f } := by
    simp only [Work.takeOne, State.withParams_params, image, hp, Bool.and_self, Work.raiseIf_true]
    exact Work.raise_mk (by decide) hroom
  rw [List.foldl_append, Work.foldl_takeOne_of_silent before s f (.inr hbefore), List.foldl_cons, first,
    Work.foldl_takeOne_of_silent after _ f (.inl (State.reported_flag _ _))]
  simp only [List.foldl_append, List.foldl_cons, List.foldl_nil, State.reported_params, State.withParams_params]

/-- Of an ascending list, what stands up to a place of it is what is at most that place's item. -/
theorem mem_upTo_iff {before after : List ParamId} {p q : ParamId} (ascending : (before ++ p :: after).Pairwise (· < ·))
    (hq : q ∈ before ++ p :: after) : q ∈ before ++ [p] ↔ q ≤ p := by
  obtain ⟨-, tail, cross⟩ := List.pairwise_append.1 ascending
  have above := (List.pairwise_cons.1 tail).1
  rw [List.mem_append, List.mem_singleton]
  constructor
  · rintro (hbefore | rfl)
    · exact (cross q hbefore p List.mem_cons_self).le
    · exact le_rfl
  · intro hle
    rcases List.mem_append.1 hq with hbefore | hrest
    · exact .inl hbefore
    · rcases List.mem_cons.1 hrest with rfl | hafter
      · exact .inr rfl
      · exact absurd (above q hafter) hle.not_gt

/-- The report_enable that the first adjustment of a LIVE taking meets: the old value for an id below report_enable's, the
new one for an id above (log entry 31). -/
theorem ParamStore.reportEnable_upTo {ps : ParamStore} {before after : List ParamId} {p : ParamId}
    (split : idsOf ParamClass.isLive = before ++ p :: after) :
    ((before ++ [p]).foldl ParamStore.takeOne ps.liveBegun).effect[Param.reportEnable] =
      if p < Param.reportEnable then ps.effect[Param.reportEnable]
      else ps.liveTaken.effect[Param.reportEnable] := by
  have ascending : (idsOf ParamClass.isLive).Pairwise (· < ·) := (List.pairwise_lt_finRange 46).filter _
  have live : Param.reportEnable ∈ idsOf ParamClass.isLive := by decide
  have upTo := mem_upTo_iff (split ▸ ascending) (split ▸ live)
  have taken : ps.liveTaken.effect[Param.reportEnable] = (adjusted ps.image Param.reportEnable).1 := by
    rw [← ps.foldl_takeOne_live, ParamStore.foldl_takeOne_effect, if_pos live]
    rfl
  rw [ParamStore.foldl_takeOne_effect, taken, ← ite_not]
  simp only [upTo, not_le]
  rfl

theorem State.liveTaken_of_none {s : State} (h : adjustedIn s.params.image .live = []) :
    s.liveTaken = s.withParams s.params.liveTaken := by
  simp only [State.liveTaken, ParamStore.liveTaken, h]

theorem State.liveTaken_of_first {s : State} {p : ParamId} {rest : List ParamId}
    (h : adjustedIn s.params.image .live = p :: rest) :
    s.liveTaken =
      if p < Param.reportEnable then (s.reported .paramAdjusted).withParams s.params.liveTaken
      else (s.withParams s.params.liveTaken).reported .paramAdjusted := by
  simp only [State.liveTaken, ParamStore.liveTaken, h]

/-- A full LIVE taking with room in the event queue (R150 to R153; log entry 31). -/
theorem Work.takeLive_mk {s : State} (f : Option Cause) (hroom : s.room 1) :
    (Work.mk s f).takeLive = { st := s.liveTaken, fatal := f } := by
  have listed := adjustedIn_live s.params.image
  rw [Work.takeLive_eq]
  cases first : adjustedIn s.params.image .live with
  | nil =>
    have silent : ∀ p ∈ idsOf ParamClass.isLive, (adjusted s.params.image p).2 = false := by
      simpa [first] using listed.symm
    rw [Work.foldl_takeOne_of_silent _ (s.withParams s.params.liveBegun) f (.inr silent), State.withParams_params,
      ParamStore.foldl_takeOne_live, State.withParams_withParams, State.liveTaken_of_none first]
  | cons p rest =>
    obtain ⟨before, after, split, hbefore, hp, -⟩ := List.filter_eq_cons_iff.1 (listed.symm.trans first)
    have quiet : ∀ q ∈ before, (adjusted s.params.image q).2 = false := fun q hq => by simpa using hbefore q hq
    have enable := s.params.reportEnable_upTo split
    rw [split, Work.foldl_takeOne_of_first (s := s.withParams s.params.liveBegun) f hroom quiet hp, ← split,
      State.withParams_params, ParamStore.foldl_takeOne_live, State.withParams_withParams,
      State.liveTaken_of_first first]
    by_cases below : p < Param.reportEnable
    · rw [if_pos below] at enable ⊢
      rw [State.withParams_reported _ enable, State.withParams_withParams]
    · rw [if_neg below] at enable ⊢
      rw [← State.withParams_reported (s := s.withParams _) _ enable.symm, State.withParams_withParams]

/-! ### Requests performed -/

/-- The request performed has no part in a report. -/
theorem State.withRequests_reported (s : State) (rest : List Request) (c : Cause) :
    (s.withLink { s.link with requests := rest }).reported c =
      (s.reported c).withLink { (s.reported c).link with requests := rest } := by
  have enabled : (s.withLink { s.link with requests := rest }).reports c.cls = s.reports c.cls := rfl
  simp only [State.reported, enabled, State.withLink_causes]
  split_ifs <;> rfl

/-- The request performed has no part in a LIVE taking. -/
theorem State.withRequests_liveTaken (s : State) (rest : List Request) :
    (s.withLink { s.link with requests := rest }).liveTaken =
      s.liveTaken.withLink { s.liveTaken.link with requests := rest } := by
  cases h : adjustedIn s.params.image .live with
  | nil =>
    rw [State.liveTaken_of_none h]
    exact State.liveTaken_of_none h
  | cons p ids =>
    rw [State.liveTaken_of_first h]
    refine (State.liveTaken_of_first (s := s.withLink { s.link with requests := rest }) h).trans ?_
    split_ifs
    · rw [State.withRequests_reported]
      rfl
    · exact State.withRequests_reported (s.withParams s.params.liveTaken) rest .paramAdjusted

section
variable {s : State} {r : Request} {rest : List Request} {p : ParamId} {id v0 v1 v2 v3 : Byte}

/-- An accepted GET_PARAM (R149). -/
theorem State.Offers.exec_getParam (h : s.Offers .getParam r rest) (hp : r.payload = [id])
    (hid : id.toNat = p.val + 1) :
    exec .getParam s = .next (s.answered rest (doneTo r (s.params.paramBytes p))) := by
  change exec (performingCommand (some .getParam)) s = _
  rw [h.exec_eq]
  simp only [RequestKind.body, getParam, hp, readParamId_eq_some hid]
  rfl

/-- An accepted SET_PARAM, from the state with the value in the image (R148). -/
theorem State.Offers.exec_setParam (h : s.Offers .setParam r rest) (hp : r.payload = [id, v0, v1, v2, v3])
    (hid : id.toNat = p.val + 1) {u : State} (hu : u = s.withParams (s.params.store p (readSigned [v0, v1, v2, v3]))) :
    exec .setParam s =
      ((if (paramRow p).cls = .live then (Work.mk (u.withLink { u.link with requests := rest }) none).afterLiveWrite
        else Work.mk (u.withLink { u.link with requests := rest }) none).finish r r.payload).done := by
  subst hu
  change exec (performingCommand (some .setParam)) s = _
  rw [h.exec_eq]
  simp only [RequestKind.body, setParam, hp, readParamId_eq_some hid]
  rfl

theorem Work.afterLiveWrite_of_running {w : Work} (h : w.st.ctrl.run = .running) :
    w.afterLiveWrite = w.modify fun s => s.withParams { s.params with liveWaiting := true } := if_pos h

theorem Work.afterLiveWrite_of_not_running {w : Work} (h : w.st.ctrl.run ≠ .running) : w.afterLiveWrite = w.takeLive :=
  if_neg h

end

/-! ### The obligations -/

/-- Settles O42: the bytes are the id, the class's code and the two values. -/
theorem getParamAnswers : Obligations.GetParamAnswers := by
  intro s r rest p id ho hp hid
  rw [ho.exec_getParam hp hid, ParamStore.paramBytes, byte_idNumber hid]
  cases (paramRow p).cls <;> rfl

/-- Settles O41: the table row by row, what a taking gives by `adjustOwn_eq` but for the pair, and the write by the
parameter's class and the run state. -/
theorem setParamStores : Obligations.SetParamStores := by
  refine ⟨fun p => ⟨rfl, fun h => paramRow_of_id h.symm, rowOfId_walk, fun row hrow hid => ?_, fun row hrow hid => ?_,
    fun h => paramRow_of_id h.symm, (paramRow p).admits_iff⟩, by decide, fun s p => ⟨rfl, rfl⟩,
    fun image p => ⟨fun h => ?_, fun h => ?_⟩, fun s r rest p id v0 v1 v2 v3 ho hp hid => ?_⟩
  · rw [paramRow_of_id hid]
    clear hid
    revert row
    decide
  · rw [paramRow_of_id hid]
    clear hid
    revert row
    decide
  · have defaulted := (pairDefaulted_iff image).2 h
    exact ⟨adjusted_of_pairDefaulted (.inl rfl) defaulted, adjusted_of_pairDefaulted (.inr rfl) defaulted⟩
  · have own : pairDefaulted image = false ∨ (p ≠ Param.minRange ∧ p ≠ Param.maxRange) := by
      refine h.imp_left fun ordered => ?_
      rw [← Bool.not_eq_true, pairDefaulted_iff]
      exact ordered.not_ge
    exact (adjusted_of_own own).trans (adjustOwn_eq (paramRow_admits_default p) _)
  · refine ⟨fun hcls => ?_, fun hcls hrun => ?_, fun hcls hrun hroom => ?_⟩
    · rw [ho.exec_setParam hp hid rfl, if_neg hcls]
      rfl
    · rw [ho.exec_setParam hp hid rfl, if_pos hcls, Work.afterLiveWrite_of_running hrun]
      rfl
    · rw [ho.exec_setParam hp hid rfl, if_pos hcls, Work.afterLiveWrite_of_not_running hrun,
        Work.takeLive_mk none (by exact hroom), State.withRequests_liveTaken]
      rfl

end Sys2Proof.Machine
end

section
/-! SUPPORT. The segments of a profile (R162, §12.4): how many points fit each, how its payload's length follows from
them, and how the segments up to the last divide the points; the 56 bytes of header and summary. -/

namespace Sys2Proof.Machine

/-! ### Numbers of bytes -/

@[simp] theorem leBytes_length (n v : Nat) : (leBytes n v).length = n := by
  induction n generalizing v with
  | zero => rfl
  | succ n ih => rw [leBytes, List.length_cons, ih]

@[simp] theorem leSigned_length (n : Nat) (v : Int) : (leSigned n v).length = n := leBytes_length ..
@[simp] theorem optI32_length (v : Option Int) : (optI32 v).length = 4 := leBytes_length ..
@[simp] theorem optU16_length (v : Option Nat) : (optU16 v).length = 2 := leBytes_length ..

theorem Point.bytes_length (x : Point) : x.bytes.length = 9 := rfl

/-! ### Fields of a layout -/

/-- The fields of a layout, each with the place of its first byte, the first one at place `n`. -/
def placed : Nat → List (List Byte) → List (Nat × List Byte)
  | _, [] => []
  | n, f :: fs => (n, f) :: placed (n + f.length) fs

/-- The bytes that `bytes` holds from place `field.1` on are those of the field. -/
def HasField (bytes : List Byte) (field : Nat × List Byte) : Prop :=
  (bytes.drop field.1).take field.2.length = field.2

theorem HasField.congr {bytes f g : List Byte} {n : Nat} (h : HasField bytes (n, f)) (e : f = g) :
    HasField bytes (n, g) :=
  e ▸ h

/-- Fields put one after the other stand at their places. -/
theorem hasField_of_mem_placed {before : List Byte} {fs : List (List Byte)} :
    ∀ x ∈ placed before.length fs, HasField (before ++ fs.flatten) x := by
  induction fs generalizing before with
  | nil => exact fun x hx => absurd hx List.not_mem_nil
  | cons f fs ih =>
    have rest := ih (before := before ++ f)
    rw [List.length_append, List.append_assoc] at rest
    refine List.forall_mem_cons.2 ⟨?_, rest⟩
    simp [HasField]

/-- The fields of header and summary, in the order of §12.4. -/
def Profile.fields (p : Profile) : List (List Byte) :=
  let r := p.ring
  [leBytes 4 r.sequence, leSigned 4 r.chainage, leBytes 4 (r.spacing.getD p.spacingFill.toNat), [r.direction.code],
    [slotByte r.slot], leBytes 2 (r.segment.getD 0xFFFF), leBytes 2 r.warnMargin, [byte r.decimation], [byte r.stride],
    leBytes 2 p.flags, leBytes 4 r.valid, leBytes 4 r.dropout, leBytes 4 r.outOfWindow, leBytes 2 r.framesMissing,
    leBytes 2 p.points.length, leBytes 2 p.skipped, optI32 (p.summary.least.map (·.clearance)),
    optU16 (p.summary.least.map (·.angle)), leBytes 2 p.summary.unguarded, leBytes 2 p.summary.unseen,
    leBytes 2 p.summary.infringe, leBytes 2 p.summary.warn, leBytes 2 p.summary.clear]

theorem Profile.header_eq_flatten (p : Profile) : p.header = p.fields.flatten := by
  unfold header fields
  dsimp only [optU16, i32, u32, u16]
  -- the bytes of a number stay closed, so that only the order of the fields is compared
  generalize leBytes = f, leSigned = g, optI32 = h
  simp only [List.flatten_cons, List.flatten_nil, List.append_nil, List.append_assoc, List.cons_append,
    List.nil_append]

/-- Each field of header and summary at its place (§12.4). -/
theorem Profile.header_hasField (p : Profile) :
    ∀ field ∈ [(0, leBytes 4 p.ring.sequence), (4, leSigned 4 p.ring.chainage),
      (8, leBytes 4 (p.ring.spacing.getD p.spacingFill.toNat)), (12, [p.ring.direction.code]),
      (13, [slotByte p.ring.slot]), (14, leBytes 2 (p.ring.segment.getD 0xFFFF)), (16, leBytes 2 p.ring.warnMargin),
      (18, [byte p.ring.decimation]), (19, [byte p.ring.stride]), (20, leBytes 2 p.flags),
      (22, leBytes 4 p.ring.valid), (26, leBytes 4 p.ring.dropout), (30, leBytes 4 p.ring.outOfWindow),
      (34, leBytes 2 p.ring.framesMissing), (36, leBytes 2 p.points.length), (38, leBytes 2 p.skipped),
      (40, optI32 (p.summary.least.map (·.clearance))), (44, optU16 (p.summary.least.map (·.angle))),
      (46, leBytes 2 p.summary.unguarded), (48, leBytes 2 p.summary.unseen), (50, leBytes 2 p.summary.infringe),
      (52, leBytes 2 p.summary.warn), (54, leBytes 2 p.summary.clear)], HasField p.header field := by
  have places := hasField_of_mem_placed (before := []) (fs := p.fields)
  rw [List.nil_append, ← p.header_eq_flatten] at places
  simpa only [fields, placed, leBytes_length, leSigned_length, optI32_length, optU16_length, List.length_nil,
    List.length_singleton, Nat.reduceAdd] using places

theorem Profile.header_length (p : Profile) : p.header.length = 56 := by
  simp [header_eq_flatten, fields]

/-! ### Lengths -/

/-- What a segment carries before its points: the segment head, and in segment 0 header and summary (§12.4). -/
def segmentOverhead (k : Nat) : Nat := if k = 0 then 64 else 8

theorem Profile.segmentPayload_length (p : Profile) (limit k : Nat) :
    (p.segmentPayload limit k).length = segmentOverhead k + 9 * (p.segmentPoints limit k).length := by
  have points : ((p.segmentPoints limit k).flatMap Point.bytes).length = 9 * (p.segmentPoints limit k).length := by
    simp [List.length_flatMap, Point.bytes_length, mul_comm]
  simp only [segmentPayload, segmentOverhead, u32, u16, List.length_append, leBytes_length, List.length_cons,
    List.length_nil, points]
  split
  · rw [header_length]
  · rw [List.length_nil]

/-! ### Capacities -/

/-- A full segment fits, and has no room for one point more (R162). -/
theorem segment_capacity {limit : Nat} (h : 64 ≤ limit) (k : Nat) :
    segmentOverhead k + 9 * (segmentRange limit k).2 ≤ limit ∧
      limit < segmentOverhead k + 9 * (segmentRange limit k).2 + 9 := by
  unfold segmentOverhead segmentRange firstCapacity laterCapacity
  split <;> dsimp only <;> omega

/-- With room for one point beside header and summary, every segment may hold a point. -/
theorem segmentRange_snd_pos {limit : Nat} (h : 73 ≤ limit) (k : Nat) : 0 < (segmentRange limit k).2 := by
  unfold segmentRange firstCapacity laterCapacity
  split <;> dsimp only <;> omega

/-- A segment begins where the one before it ends. -/
theorem segmentRange_fst_succ (limit k : Nat) :
    (segmentRange limit (k + 1)).1 = (segmentRange limit k).1 + (segmentRange limit k).2 := by
  cases k with
  | zero => simp [segmentRange]
  | succ k => simp only [segmentRange, Nat.add_one_ne_zero, if_false, Nat.add_sub_cancel]; ring

theorem le_segmentRange_fst {limit : Nat} (h : 73 ≤ limit) (k : Nat) : k ≤ (segmentRange limit k).1 := by
  induction k with
  | zero => exact Nat.zero_le _
  | succ k ih =>
    have pos := segmentRange_snd_pos h k
    rw [segmentRange_fst_succ]
    omega

/-! ### Points of the segments -/

theorem isLastSegment_iff (limit n k : Nat) :
    isLastSegment limit n k = true ↔ n ≤ (segmentRange limit (k + 1)).1 := by
  rw [isLastSegment, decide_eq_true_iff, segmentRange_fst_succ]

theorem isLastSegment_eq_false_iff (limit n k : Nat) :
    isLastSegment limit n k = false ↔ (segmentRange limit (k + 1)).1 < n := by
  rw [← Bool.not_eq_true, isLastSegment_iff, not_le]

theorem Profile.segmentPoints_length (p : Profile) (limit k : Nat) :
    (p.segmentPoints limit k).length = min (segmentRange limit k).2 (p.points.length - (segmentRange limit k).1) := by
  rw [segmentPoints, List.length_take, List.length_drop]

/-- The segments before segment `k` carry the points before its first one, whole and in order. -/
theorem Profile.flatMap_segmentPoints (p : Profile) (limit k : Nat) :
    (List.range k).flatMap (p.segmentPoints limit) = p.points.take (segmentRange limit k).1 := by
  induction k with
  | zero => rfl
  | succ k ih =>
    rw [List.range_succ, List.flatMap_append, ih, segmentRange_fst_succ, List.take_add, List.flatMap_singleton]
    rfl

theorem Profile.segmentPayload_fits (p : Profile) {limit : Nat} (h : 64 ≤ limit) (k : Nat) :
    (p.segmentPayload limit k).length ≤ limit := by
  have fits := (segment_capacity h k).1
  rw [segmentPayload_length, segmentPoints_length]
  omega

/-- A segment that is not the last is full. -/
theorem Profile.segmentPayload_full (p : Profile) {limit : Nat} (h : 64 ≤ limit) {k : Nat}
    (notLast : isLastSegment limit p.points.length k = false) : limit < (p.segmentPayload limit k).length + 9 := by
  have full := (segment_capacity h k).2
  rw [isLastSegment_eq_false_iff, segmentRange_fst_succ] at notLast
  rw [segmentPayload_length, segmentPoints_length]
  omega

/-- The first segment that reaches the end of the points is the last one sent: no earlier one has the last flag, it is
empty only if there are no points, and the segments up to it carry the points (R162). -/
theorem Profile.exists_last_segment (p : Profile) {limit : Nat} (h : 73 ≤ limit) :
    ∃ last, isLastSegment limit p.points.length last = true ∧
      (∀ k < last, isLastSegment limit p.points.length k = false) ∧
      (p.points = [] → last = 0) ∧ (p.points ≠ [] → p.segmentPoints limit last ≠ []) ∧
      (List.range (last + 1)).flatMap (p.segmentPoints limit) = p.points := by
  have reached : ∃ k, isLastSegment limit p.points.length k = true := by
    refine ⟨p.points.length, (isLastSegment_iff ..).2 ?_⟩
    exact (Nat.le_succ _).trans (le_segmentRange_fst h _)
  have earlier : ∀ k < Nat.find reached, isLastSegment limit p.points.length k = false :=
    fun k hk => Bool.eq_false_of_not_eq_true (Nat.find_min reached hk)
  refine ⟨Nat.find reached, Nat.find_spec reached, earlier, fun none => ?_, fun some => ?_, ?_⟩
  · rw [Nat.find_eq_zero, none]
    exact (isLastSegment_iff ..).2 (Nat.zero_le _)
  · have begins : (segmentRange limit (Nat.find reached)).1 < p.points.length := by
      rcases first : Nat.find reached with _ | k
      · exact List.length_pos_iff.2 some
      · exact (isLastSegment_eq_false_iff ..).1 (earlier k (by omega))
    have holds := segmentRange_snd_pos h (Nat.find reached)
    rw [← List.length_pos_iff, segmentPoints_length]
    omega
  · rw [flatMap_segmentPoints]
    exact List.take_of_length_le ((isLastSegment_iff ..).1 (Nat.find_spec reached))

/-! ### Layouts -/

theorem slotByte_eq (slot : Option SlotId) :
    slotByte slot = match slot with | some k => BitVec.ofNat 8 k.val | none => 0xFF := by
  cases slot <;> rfl

/-- The flags of a profile header, bit by bit (§12.4). -/
theorem Profile.flags_eq (p : Profile) : p.flags =
    (if p.ring.spacedWide then 1 else 0) + (if p.truncated then 2 else 0) + (if p.ring.segment = none then 4 else 0) +
      (if p.ring.fixApplied then 8 else 0) + (if p.ring.spacing = none then 0 else 16) := by
  have bit (m : Nat) (b : Bool) : m * b.toNat = if b then m else 0 := by cases b <;> simp
  rw [flags, ← one_mul p.ring.spacedWide.toNat]
  simp only [bit, Option.isNone_iff_eq_none, Option.isSome_iff_ne_none, ite_not]

/-- The summary's least clearance, or its absent marker, the least number of 32 bits (R183). -/
theorem least_clearance_bytes (x : Option Least) : optI32 (x.map (·.clearance)) =
    match x with | some l => leSigned 4 l.clearance | none => [0, 0, 0, 0x80] := by
  cases x <;> rfl

theorem least_angle_bytes (x : Option Least) : optU16 (x.map (·.angle)) =
    match x with | some l => leBytes 2 l.angle | none => [0xFF, 0xFF] := by
  cases x <;> rfl

theorem Point.bytes_eq (x : Point) : x.bytes =
    leBytes 2 (x.angle + 16384 *
      (match x.judgement with | .clear => 0 | .warning => 1 | .infringing => 2 | .unguarded => 3)) ++
      leSigned 3 x.y ++ leSigned 3 x.z ++ [x.intensity] := by
  obtain ⟨angle, judgement, y, z, intensity⟩ := x
  cases judgement <;> rfl

/-- The payload of a segment, whatever function says the bytes of a point (§12.4). -/
theorem Profile.segmentPayload_eq (p : Profile) (limit k : Nat) {pointBytes : Point → List Byte}
    (h : ∀ x : Point, x.bytes = pointBytes x) :
    p.segmentPayload limit k =
      leBytes 4 p.ring.sequence ++ leBytes 2 k ++ [BitVec.ofNat 8 (p.segmentPoints limit k).length] ++
        [if isLastSegment limit p.points.length k then 1 else 0] ++ (if k = 0 then p.header else []) ++
        (p.segmentPoints limit k).flatMap pointBytes := by
  rw [← funext h, segmentPayload, ← List.singleton_append, ← List.append_assoc]
  rfl

/-- Settles O58: the division of the points by `Profile.exists_last_segment`, the lengths by the capacities, and the
layout field by field of the 56 bytes. -/
theorem segmentsCarryProfile : Obligations.SegmentsCarryProfile := by
  intro p code small few limit
  have wide : 73 ≤ limit := by
    have := Nat.one_le_two_pow (n := code)
    show 73 ≤ 256 * 2 ^ code
    omega
  have fits : 64 ≤ limit := le_trans (by decide) wide
  obtain ⟨last, flag, earlier, empty, carries, whole⟩ := p.exists_last_segment wide
  have layout := p.header_hasField
  simp only [List.forall_mem_cons] at layout
  obtain ⟨sequence, chainage, spacing, direction, slot, segment, margin, decimation, stride, flags, valid, dropout,
    outside, missing, points, skipped, clearance, angle, unguarded, unseen, infringe, warn, clear, -⟩ := layout
  refine ⟨p.segmentPayload_fits fits,
    ⟨last, flag, fun k hk => ⟨earlier k hk, p.segmentPayload_full fits (earlier k hk)⟩, empty, carries, whole⟩,
    p.header, p.header_length, fun k => p.segmentPayload_eq limit k Point.bytes_eq, fun d present => ?_, ?_⟩
  · simpa only [HasField, present, Option.getD_some, leBytes_length] using spacing
  · show ∀ field ∈ _, HasField p.header field
    simp only [List.forall_mem_cons]
    have slotField := slot.congr (congrArg (fun b => [b]) (slotByte_eq _))
    exact ⟨sequence, chainage, direction, slotField, segment, margin, decimation, stride,
      flags.congr (by rw [p.flags_eq]), valid, dropout, outside, missing, points, skipped,
      clearance.congr (least_clearance_bytes _), angle.congr (least_angle_bytes _), unguarded, unseen, infringe, warn,
      clear, fun _ none => absurd none List.not_mem_nil⟩

end Sys2Proof.Machine
end

section
/-! SUPPORT. The upstream receiver (R155, R165, R166, R175): what one symbol does on an UP link, how a frame that has
ended is judged, and what many symbols do (section 1.1). -/

namespace Sys2Proof.Machine

/-! ### Links under way -/

theorem State.withLink_withLink (s : State) (x y : RecorderLink) : (s.withLink x).withLink y = s.withLink y := rfl

theorem Agent.resetting_iff (a : Agent) : a.resetting = true ↔ a = .resetWaiting := by
  cases a <;> simp [Agent.resetting]

theorem Agent.reserved_eq (a : Agent) : a.reserved = match a with | .headPass _ _ _ => 1 | _ => 0 := by
  cases a <;> rfl

/-- A report keeps the requests and the responses. -/
theorem State.reported_queues (s : State) (c : Cause) :
    (s.reported c).link.requests = s.link.requests ∧ (s.reported c).link.responses = s.link.responses := by
  rw [State.reported_frame]
  exact ⟨rfl, rfl⟩

/-- The responses have no part in a report. -/
theorem State.withResponses_reported (s : State) (xs : List Response) (c : Cause) :
    (s.withLink { s.link with responses := xs }).reported c =
      (s.reported c).withLink { (s.reported c).link with responses := xs } := by
  have enabled : (s.withLink { s.link with responses := xs }).reports c.cls = s.reports c.cls := rfl
  simp only [State.reported, enabled, State.withLink_causes]
  split_ifs <;> rfl

/-! ### Symbol lock -/

theorem SymbolLock.next_of_ne_invalid {l : SymbolLock} {x : Symbol} (held : l.held = true) (hx : x ≠ .invalid) :
    l.next x = l.heard := by
  rw [SymbolLock.next, if_pos held, if_neg hx, SymbolLock.heard]

theorem SymbolLock.next_invalid_of_lt {l : SymbolLock} (held : l.held = true) (h : l.invalids < 3) :
    l.next .invalid = { l with invalids := l.invalids + 1 } := by
  rw [SymbolLock.next, if_pos held, if_pos rfl, if_pos (show _ < Config.symbolLossRun from Nat.succ_lt_succ h)]

theorem SymbolLock.next_invalid_of_le {l : SymbolLock} (held : l.held = true) (h : 3 ≤ l.invalids) :
    l.next .invalid = .none := by
  rw [SymbolLock.next, if_pos held, if_pos rfl,
    if_neg (show ¬ _ < Config.symbolLossRun from Nat.not_lt.2 (Nat.succ_le_succ h))]

theorem SymbolLock.next_idle_of_lt {l : SymbolLock} (held : l.held = false) (h : l.idles < 2) :
    l.next .idle = { l with idles := l.idles + 1 } := by
  rw [SymbolLock.next, held, if_neg Bool.false_ne_true, if_pos rfl,
    if_pos (show _ < Config.symbolLockRun from Nat.succ_lt_succ h)]

theorem SymbolLock.next_idle_of_le {l : SymbolLock} (held : l.held = false) (h : 2 ≤ l.idles) :
    l.next .idle = { held := true, idles := 0, invalids := 0 } := by
  rw [SymbolLock.next, held, if_neg Bool.false_ne_true, if_pos rfl,
    if_neg (show ¬ _ < Config.symbolLockRun from Nat.not_lt.2 (Nat.succ_le_succ h))]

theorem SymbolLock.next_of_ne_idle {l : SymbolLock} {x : Symbol} (held : l.held = false) (hx : x ≠ .idle) :
    l.next x = { l with idles := 0 } := by
  rw [SymbolLock.next, held, if_neg Bool.false_ne_true, if_neg hx]

/-! ### Many symbols -/

/-- The state after upstream symbols. -/
def State.received (s : State) (xs : List Symbol) : State := (xs.foldl Work.receive (Work.of s)).st

theorem Work.eq_of_st {w : Work} (h : w.fatal = none) : w = Work.of w.st := by
  rw [Work.of, ← h]

/-- What a step under way is after upstream symbols: nothing fatal waits. -/
theorem foldl_receive (s : State) (xs : List Symbol) :
    xs.foldl Work.receive (Work.of s) = Work.of (s.received xs) :=
  Work.eq_of_st (Work.receive_all_fatal xs (Work.of s) rfl)

theorem exec_requestFrame (s : State) (xs : List Symbol) : exec (.requestFrame xs) s = .next (s.received xs) := by
  show (xs.foldl Work.receive (Work.of s)).done = _
  rw [foldl_receive]
  rfl

theorem State.received_nil (s : State) : s.received [] = s := rfl

theorem State.received_append (s : State) (xs ys : List Symbol) :
    s.received (xs ++ ys) = (s.received xs).received ys := by
  rw [received, List.foldl_append, foldl_receive]
  rfl

theorem State.received_cons (s : State) (x : Symbol) (xs : List Symbol) :
    s.received (x :: xs) = (s.received [x]).received xs :=
  s.received_append [x] xs

/-! ### One symbol -/

section
variable {s : State} {x : Symbol}

/-- On a DOWN link a symbol moves the symbol lock alone (R155). -/
theorem State.received_of_down (down : s.link.up = false) :
    s.received [x] = s.withLink { s.link with sync := s.link.sync.next x } :=
  congrArg Work.st (Work.receive_of_not_held (Work.of s) x down)

/-- On a link that stays UP the symbol belongs to the frame under way (R165). -/
theorem State.received_of_up (up : s.link.up = true) (stays : (s.link.sync.next x).held = true) :
    s.received [x] =
      ((Work.of (s.withLink { s.link with sync := s.link.sync.next x })).receiveUp x).st := by
  have held : s.link.sync.held = true := up
  simp [received, Work.receive, held, stays, Work.of_eq]

/-- A symbol that is not invalid ends the run of invalid ones. -/
theorem State.received_of_heard (up : s.link.up = true) (hx : x ≠ .invalid) :
    s.received [x] = ((Work.of (s.withLink { s.link with sync := s.link.sync.heard })).receiveUp x).st := by
  have next := SymbolLock.next_of_ne_invalid (l := s.link.sync) up hx
  rw [received_of_up up (by rw [next]; exact up), next]

/-- A start delimiter begins a frame (R165). -/
theorem State.received_delimiter (up : s.link.up = true) (outside : s.link.partFrame = none) :
    s.received [.delimiter] = s.withLink { s.link with sync := s.link.sync.heard, partFrame := some [] } := by
  rw [received_of_heard up (by simp)]
  simp [Work.receiveUp, outside, Work.setPartFrame, State.withLink_withLink]

/-- Any other symbol outside a frame is discarded (R165). -/
theorem State.received_discarded (up : s.link.up = true) (hx : x ≠ .invalid) (hd : x ≠ .delimiter)
    (outside : s.link.partFrame = none) :
    s.received [x] = s.withLink { s.link with sync := s.link.sync.heard } := by
  rw [received_of_heard up hx]
  cases x with
  | delimiter => exact absurd rfl hd
  | _ => simp [Work.receiveUp, outside]

/-- A data byte joins the frame under way (R165). -/
theorem State.received_data {b : Byte} {part : List Symbol} (up : s.link.up = true)
    (inside : s.link.partFrame = some part) :
    s.received [.data b] = s.withLink { s.link with
      sync := s.link.sync.heard, partFrame := some (part ++ [.data b]) } := by
  rw [received_of_heard up (by simp)]
  simp [Work.receiveUp, inside, Work.setPartFrame, State.withLink_withLink]

/-- An invalid symbol before the fourth in a row joins a frame under way and makes it bad (R165; log entry 34). -/
theorem State.received_invalid_of_lt (up : s.link.up = true) (few : s.link.sync.invalids < 3) :
    s.received [.invalid] = s.withLink { s.link with
      sync := { s.link.sync with invalids := s.link.sync.invalids + 1 }
      partFrame := s.link.partFrame.map (· ++ [.invalid]) } := by
  have next := SymbolLock.next_invalid_of_lt up few
  rw [received_of_up up (by rw [next]; exact up), next]
  cases h : s.link.partFrame with
  | none => simp [Work.receiveUp, h]
  | some part => simp [Work.receiveUp, h, Work.setPartFrame, State.withLink_withLink]

end

/-! ### The end of a frame -/

/-- The response BUSY to a request. -/
def busyTo (r : Request) : Response :=
  { tag := r.tag, kind := r.kind, result := .busy, reason := none, payload := [] }

/-- The state in which a frame that the symbol `z` has ended is judged: out of a frame, or at the begin of
the next one. -/
def State.frameEnded (s : State) (z : Symbol) : State :=
  s.withLink { s.link with
    sync := s.link.sync.heard, partFrame := if z = .delimiter then some [] else none }

theorem State.received_end {s : State} {z : Symbol} {part : List Symbol} (up : s.link.up = true)
    (inside : s.link.partFrame = some part) (hz : z = .idle ∨ z = .delimiter) :
    s.received [z] = ((Work.of (s.frameEnded z)).judgeFrame part).st := by
  have heard : z ≠ .invalid := by rintro rfl; simp at hz
  rw [received_of_heard up heard]
  rcases hz with rfl | rfl <;>
    simp [Work.receiveUp, inside, Work.setPartFrame, Work.of_eq, frameEnded, State.withLink_withLink]

section
variable {u : State} {part : List Symbol} {r : Request}

/-- A bad frame raises REQ_CHECK (R165). -/
theorem judgeFrame_of_bad (room : u.room 1) (bad : parseRequest part = none) :
    ((Work.of u).judgeFrame part).st = u.reported .reqCheck := by
  rw [Work.judgeFrame, bad, Work.of_eq, Work.raise_mk (by decide) room]
  rfl

/-- A good frame is queued while fewer than four requests wait (R166). -/
theorem judgeFrame_of_place (good : parseRequest part = some r) (place : u.link.requests.length < 4) :
    ((Work.of u).judgeFrame part).st = u.withLink { u.link with requests := u.link.requests ++ [r] } := by
  have short : u.link.requests.length < Config.maxRequests := place
  simp [Work.judgeFrame, good, Work.takeIn, Work.of_eq, short]

/-- While a RESET response waits, a good frame that finds the queue full is dropped (R175). -/
theorem judgeFrame_of_resetting (good : parseRequest part = some r) (full : 4 ≤ u.link.requests.length)
    (resetting : u.link.agent.resetting = true) : ((Work.of u).judgeFrame part).st = u := by
  have long : ¬ u.link.requests.length < Config.maxRequests := not_lt.2 full
  simp [Work.judgeFrame, good, Work.takeIn, Work.of_eq, long, resetting]

/-- Otherwise it is answered BUSY while a response place is free (R166). -/
theorem judgeFrame_of_busy (good : parseRequest part = some r) (full : 4 ≤ u.link.requests.length)
    (awake : u.link.agent.resetting = false) (place : u.link.placesTaken < 4) (room : u.room 1) :
    ((Work.of u).judgeFrame part).st = (u.reported .reqBusy).answered u.link.requests (busyTo r) := by
  have long : ¬ u.link.requests.length < Config.maxRequests := not_lt.2 full
  have free : u.link.placesTaken < Config.maxResponses := place
  obtain ⟨requests, responses⟩ := u.reported_queues .reqBusy
  simp only [Work.judgeFrame, good, Work.takeIn, Work.of_eq, long, if_false, awake, Bool.false_eq_true, free, if_true,
    Work.respond, Work.modify_mk]
  have answered : (u.withLink { u.link with responses := u.link.responses ++ [busyTo r] }).room 1 := room
  change ((Work.mk (u.withLink { u.link with responses := u.link.responses ++ [busyTo r] }) none).raise _).settle.st = _
  rw [Work.raise_mk (by decide) answered, Work.settle_mk, State.withResponses_reported,
    State.answered, ← requests, ← responses]

/-- With no response place free it is dropped, with the cause alone (R166). -/
theorem judgeFrame_of_overrun (good : parseRequest part = some r) (full : 4 ≤ u.link.requests.length)
    (awake : u.link.agent.resetting = false) (taken : 4 ≤ u.link.placesTaken) (room : u.room 1) :
    ((Work.of u).judgeFrame part).st = u.reported .reqBusy := by
  have long : ¬ u.link.requests.length < Config.maxRequests := not_lt.2 full
  have none : ¬ u.link.placesTaken < Config.maxResponses := not_lt.2 taken
  simp only [Work.judgeFrame, good, Work.takeIn, Work.of_eq, long, if_false, awake, Bool.false_eq_true, none]
  rw [Work.raise_mk (by decide) room, Work.settle_mk]

end

/-- Settles O55: one symbol at a time by the lemmas above, a frame that has ended by the five ways it is judged. -/
theorem requestFrameTakenIn : Obligations.RequestFrameTakenIn := by
  intro s
  refine ⟨rfl, congrArg (s.link.responses.length + ·) (Agent.reserved_eq _), Agent.resetting_iff _,
    fun xs ys u after => ?_, fun down x => ?_, fun up => ⟨fun outside => ?_, fun part inside => ?_⟩⟩
  · obtain rfl : s.received xs = u := by simpa only [exec_requestFrame, Host.Outcome.next.injEq] using after
    rw [exec_requestFrame, exec_requestFrame, State.received_append]
  · exact ⟨_, exec_requestFrame s [x], by rw [State.received_of_down down]; rfl⟩
  · refine ⟨?_, ?_, fun b => ?_⟩
    · rw [exec_requestFrame, State.received_delimiter up outside, SymbolLock.heard]
    · rw [exec_requestFrame, State.received_discarded up (by simp) (by simp) outside, SymbolLock.heard]
    · rw [exec_requestFrame, State.received_discarded up (by simp) (by simp) outside, SymbolLock.heard]
  · refine ⟨fun b => ?_, fun few => ?_, fun z hz => ?_⟩
    · rw [exec_requestFrame, State.received_data up inside, SymbolLock.heard]
    · rw [exec_requestFrame, State.received_invalid_of_lt up few, inside, Option.map_some]
    · have ended : exec (.requestFrame [z]) s = .next ((Work.of (s.frameEnded z)).judgeFrame part).st := by
        rw [exec_requestFrame, State.received_end up inside hz]
      exact ⟨fun room bad => ended.trans (congrArg _ (judgeFrame_of_bad room bad)), fun r good =>
        ⟨fun place => ended.trans (congrArg _ (judgeFrame_of_place good place)),
          fun full resetting => ended.trans (congrArg _ (judgeFrame_of_resetting good full resetting)),
          fun full awake place room => ended.trans (congrArg _ (judgeFrame_of_busy good full awake place room)),
          fun full awake taken room => ended.trans (congrArg _ (judgeFrame_of_overrun good full awake taken room))⟩⟩

end Sys2Proof.Machine
end

section
/-! SUPPORT. The arbiter's choice and the bytes of what the device sends (R156, R157, R182, R183, §12.3, §12.5). -/

namespace Sys2Proof.Machine

/-! ### The choice -/

section
variable {s : State}

/-- With the link DOWN or the transmitter busy there is no occasion to choose. -/
theorem State.choose_of_not_free (h : s.link.up = false ∨ s.link.tx.isSome = true) : s.choose = s := by
  refine if_neg fun ⟨up, free⟩ => ?_
  rcases h with down | busy
  · rw [down] at up
    exact Bool.false_ne_true up
  · rw [Option.isNone_iff_eq_none.1 free] at busy
    exact Bool.false_ne_true busy

theorem State.choose_of_free (up : s.link.up = true) (free : s.link.tx = none) :
    s.choose = s.withLink { s.link with tx := s.nextFrame } :=
  if_pos ⟨up, Option.isNone_iff_eq_none.2 free⟩

theorem State.nextFrame_of_response {r : Response} {rs : List Response} (h : s.link.responses = r :: rs) :
    s.nextFrame = some { source := .response, frame := linkFrame 0x80 r.tag r.payloadBytes, sent := 0 } := by
  simp only [nextFrame, h]

theorem State.nextFrame_of_event {e : EventRecord} {es : List EventRecord} (noResponse : s.link.responses = [])
    (h : s.link.events = e :: es) :
    s.nextFrame = some { source := .event, frame := linkFrame 0x81 0 e.payload, sent := 0 } := by
  simp only [nextFrame, noResponse, h]

theorem State.nextFrame_of_segment {k : Fin 3} {ks : List (Fin 3)} {p : Profile} (noResponse : s.link.responses = [])
    (noEvent : s.link.events = []) (first : s.link.readyOrder = k :: ks) (h : s.link.slots[k].profile = some p) :
    s.nextFrame = some
      { source := .segment k, sent := 0
        frame := linkFrame 0x82 0 (p.segmentPayload s.payloadLimit p.nextSegment) } := by
  simp only [nextFrame, noResponse, noEvent, first, h, Option.map_some]

theorem State.nextFrame_of_nothing (noResponse : s.link.responses = []) (noEvent : s.link.events = [])
    (noProfile : s.link.readyOrder = []) : s.nextFrame = none := by
  simp only [nextFrame, noResponse, noEvent, noProfile]

end

/-! ### Bytes -/

theorem linkFrame_eq (kind tag : Byte) (payload : List Byte) : linkFrame kind tag payload =
    ([kind, tag] ++ leBytes 2 payload.length ++ payload) ++
      leBytes 2 (crc16 ([kind, tag] ++ leBytes 2 payload.length ++ payload)).toNat := rfl

theorem ReqResult.code_eq (x : ReqResult) : x.code = match x with | .done => 0 | .refused => 1 | .busy => 2 := by
  cases x <;> rfl

/-- The reason byte of a response: the reason's code, 0 without one (R168, §12.3). -/
theorem Reason.code_eq (x : Option Reason) : (match x with | some y => y.code | none => 0) =
    (match x with
     | none => 0 | some .unknownKind => 1 | some .badLength => 2 | some .wrongState => 3 | some .outOfRange => 4
     | some .routeInvalid => 5 | some .headUnlocked => 6 | some .commitWaiting => 7) := by
  rcases x with _ | y
  · rfl
  · cases y <;> rfl

/-- The payload of a response, given its result's byte and its reason's (§12.3). -/
theorem Response.payloadBytes_eq (r : Response) {result reason : Byte} (hresult : r.result.code = result)
    (hreason : (match r.reason with | some x => x.code | none => 0) = reason) :
    r.payloadBytes = [r.kind, result, reason] ++ r.payload := by
  subst hresult hreason
  rfl

/-- The intrusion entry, given the byte of its slot (§12.5). -/
theorem Intrusion.bytes_eq (x : Intrusion) {slot : Byte} (h : slotByte x.slotAtOpen = slot) : x.bytes =
    leBytes 4 x.number ++ [BitVec.ofNat 8 x.first.val] ++ leBytes 2 x.span ++ leSigned 4 x.openChainage ++
      leBytes 4 x.openRing ++ leSigned 4 x.peakClearance ++ leBytes 2 x.peakAngle ++ leSigned 4 x.peakChainage ++
      leBytes 4 x.peakRing ++ leBytes 2 x.confirmedRings ++ [slot] ++ [if x.late then 1 else 0] := by
  subst h
  rw [bytes, ← List.singleton_append, ← List.append_assoc]
  rfl

/-- The flags of a close record do not overlap (§12.5). -/
theorem closeFlags_eq (why : CloseCause) (late : Bool) : closeFlags why late =
    BitVec.ofNat 8 ((match why with
      | .released => 0 | .merged => 1 | .evicted => 2 | .unguarded => 4 | .gap => 8 | .runEnd => 16 | .fault => 32) +
      if late then 64 else 0) := by
  cases why <;> cases late <;> rfl

theorem RingStatus.code_eq (x : RingStatus) :
    x.code = match x with | .accepted => 0 | .short => 1 | .long => 2 | .abandoned => 3 := by
  cases x <;> rfl

theorem FixStatus.code_eq (x : FixStatus) : x.code = match x with
    | .applied => 0 | .superseded => 1 | .unmatched => 2 | .repeated => 3 | .manual => 4 | .cancelled => 5 := by
  cases x <;> rfl

/-- The index and label of a FIX record, 0 without a matched entry (R183, §12.5). -/
theorem reference_bytes (x : Option (Nat × Nat)) :
    leBytes 2 ((x.map (·.1)).getD 0) ++ leBytes 2 ((x.map (·.2)).getD 0) =
      match x with | some (i, label) => leBytes 2 i ++ leBytes 2 label | none => [0, 0, 0, 0] := by
  cases x <;> rfl

/-- The chainages before and after of a FIX record, 0 without them (R183, §12.5). -/
theorem beforeAfter_bytes (x : Option (Int × Int)) :
    leSigned 4 ((x.map (·.1)).getD 0) ++ leSigned 4 ((x.map (·.2)).getD 0) =
      match x with
      | some (before, after) => leSigned 4 before ++ leSigned 4 after | none => [0, 0, 0, 0, 0, 0, 0, 0] := by
  cases x <;> rfl

/-- A FIX record's body, given the bytes of the fields that its status may not carry (§12.5). -/
theorem FixRecord.bytes_eq (f : FixRecord) {status : Byte} {reference beforeAfter : List Byte}
    (hs : f.status.code = status)
    (hr : leBytes 2 ((f.reference.map (·.1)).getD 0) ++ leBytes 2 ((f.reference.map (·.2)).getD 0) = reference)
    (hb : leSigned 4 ((f.beforeAfter.map (·.1)).getD 0) ++ leSigned 4 ((f.beforeAfter.map (·.2)).getD 0) =
      beforeAfter) :
    f.bytes = [status] ++ [if f.isTag then 0 else 1] ++ leSigned 4 f.capture ++ reference ++
      leSigned 8 (f.offset.getD 0) ++ beforeAfter := by
  subst hs hr hb
  simp only [bytes, u16, i32, List.append_assoc, List.cons_append, List.nil_append]

theorem CauseClass.code_eq (x : CauseClass) : byte x.code =
    match x with | .correctable => 0 | .nonfatal => 1 | .fatal => 2 | .refused => 3 := by
  cases x <;> rfl

/-- The start chainage of a RUN_SUMMARY, or its absent marker (R183, §12.5). -/
theorem startChainage_bytes (x : Option Int) :
    optI32 x = match x with | some c => leSigned 4 c | none => [0, 0, 0, 0x80] := by
  cases x <;> rfl

theorem RunSummary.bytes_eq (y : RunSummary) {start : List Byte} (h : optI32 y.startChainage = start) :
    y.bytes = [if y.byFault then 1 else 0] ++
      [y.opened, y.accepted, y.short, y.long, y.madeReady, y.skipped, y.intrusions].flatMap (leBytes 4) ++
      start ++ leSigned 4 y.endChainage := by
  subst h
  simp only [bytes, flagByte, u32, i32, List.flatMap_cons, List.flatMap_nil, List.append_assoc, List.nil_append]

/-- Settles O56: the choice by the oldest item of the first source that has one, and the bytes layout by layout. -/
theorem arbiterOrder : Obligations.ArbiterOrder := by
  refine ⟨fun s => ?_, by decide +kernel, linkFrame_eq,
    fun r => r.payloadBytes_eq (ReqResult.code_eq _) (Reason.code_eq _), fun n body => ?_⟩
  · refine ⟨fun h => congrArg _ (State.choose_of_not_free h), fun up free => ?_⟩
    have chooses : exec .arbiterChoose s = .next (s.withLink { s.link with tx := s.nextFrame }) :=
      congrArg _ (State.choose_of_free up free)
    refine ⟨fun r rs h => ?_, fun e es noResponse h => ?_, fun k ks p noResponse noEvent first h => ?_,
      fun noResponse noEvent noProfile => ?_⟩
    · rw [chooses, State.nextFrame_of_response h]
    · rw [chooses, State.nextFrame_of_event noResponse h]
    · rw [chooses, State.nextFrame_of_segment noResponse noEvent first h]
      rfl
    · rw [chooses, State.nextFrame_of_nothing noResponse noEvent noProfile, ← free]
      rfl
  · intro entry flag
    have entries : ∀ x : Intrusion, x.bytes = entry x := fun x => x.bytes_eq (slotByte_eq _)
    cases body with
    | intrusionOpen x c =>
      show [1] ++ leBytes 4 n ++ (x.bytes ++ leSigned 4 c) = _
      rw [entries, ← List.append_assoc]
    | intrusionClose x c ring why survivor =>
      show [2] ++ leBytes 4 n ++ (x.bytes ++ leSigned 4 c ++ leBytes 4 ring ++ [closeFlags why x.late] ++
        leBytes 4 (survivor.getD 0)) = _
      rw [entries, closeFlags_eq]
      simp only [← List.append_assoc]
      rfl
    | mark m c status =>
      show [3] ++ leBytes 4 n ++ (leSigned 4 m.chainage ++ leBytes 4 m.ringSeq ++ leBytes 2 (m.angle.getD 0xFFFF) ++
        [byte m.merged] ++ leSigned 4 c ++ [status.code]) = _
      rw [RingStatus.code_eq]
      simp only [← List.append_assoc]
      rfl
    | fix f =>
      show [4] ++ leBytes 4 n ++ f.bytes = _
      rw [f.bytes_eq (FixStatus.code_eq _) (reference_bytes _) (beforeAfter_bytes _)]
      simp only [← List.append_assoc] <;> rfl
    | notice cause c =>
      show [5] ++ leBytes 4 n ++ ([byte cause.cls.code] ++ [byte cause.bit] ++ leSigned 4 c) = _
      rw [CauseClass.code_eq]
      simp only [← List.append_assoc]
      rfl
    | runSummary y =>
      show [6] ++ leBytes 4 n ++ y.bytes = _
      rw [y.bytes_eq (startChainage_bytes _)]
      simp only [← List.append_assoc] <;> rfl
    | headNote bytes => rfl

end Sys2Proof.Machine
end

section
/-! SUPPORT. What the end of a frame sent does (R156, R162, R163, R175), and the runs of symbols with which the recorder
link comes UP and goes DOWN (section 1.1, R155, R165). -/

namespace Sys2Proof.Machine

/-! ### A frame sent -/

theorem ProfileSlot.profile_eq_some_iff (x : ProfileSlot) (p : Profile) :
    x.profile = some p ↔ x = .ready p ∨ x = .sending p := by
  cases x <;> simp [ProfileSlot.profile]

section
variable {s : State} {t : Transmission} {r : Response} {rs : List Response}

theorem Response.isReset_iff : r.isReset = true ↔ r.kind = 0x7F ∧ r.result = .done := by
  simp [Response.isReset]

/-- A RESET is due exactly with the response of an accepted RESET being sent (R175). -/
theorem State.resetDue_of_response (sent : s.link.tx = some t) (source : t.source = .response)
    (oldest : s.link.responses = r :: rs) :
    s.resetDue = true ↔ s.link.agent = .resetWaiting ∧ r.kind = 0x7F ∧ r.result = .done := by
  rw [← Response.isReset_iff]
  cases h : s.link.agent <;> simp [resetDue, h, sent, source, oldest]

theorem State.resetDue_of_none (idle : s.link.tx = none) : s.resetDue = false := by
  cases h : s.link.agent <;> simp [resetDue, h, idle]

theorem State.resetDue_of_other (sent : s.link.tx = some t) (other : t.source ≠ .response) : s.resetDue = false := by
  cases h : s.link.agent <;> cases queue : s.link.responses <;> simp [resetDue, h, queue, sent, other]

theorem exec_frameTransmitted_of_due (due : s.resetDue = true) :
    exec .frameTransmitted s = exec .resetTakesEffect s ∧ exec .frameTransmitted s = .next s.afterReset := by
  have transmitted : exec .frameTransmitted s = .next s.afterReset := if_pos due
  have takes : exec .resetTakesEffect s = .next s.afterReset := if_pos due
  exact ⟨transmitted.trans takes.symm, transmitted⟩

theorem exec_frameTransmitted_of_not_due (due : s.resetDue = false) :
    exec .frameTransmitted s = .next s.transmitted :=
  if_neg (by rw [due]; exact Bool.false_ne_true)

theorem State.transmitted_response (sent : s.link.tx = some t) (source : t.source = .response) :
    s.transmitted = s.withLink { s.link with tx := none, responses := s.link.responses.tail } := by
  simp only [transmitted, sent, source, State.withLink_link, State.withLink_withLink]

theorem State.transmitted_event (sent : s.link.tx = some t) (source : t.source = .event) :
    s.transmitted = s.withLink { s.link with tx := none, events := s.link.events.tail } := by
  simp only [transmitted, sent, source, State.withLink_link, State.withLink_withLink]

/-- A segment sent counts, and its slot is FREE after the last one (R162, R163). -/
theorem State.transmitted_segment {k : Fin 3} {p : Profile} (sent : s.link.tx = some t)
    (source : t.source = .segment k) (holds : s.link.slots[k].profile = some p) :
    s.transmitted = s.withLink
      (if isLastSegment s.payloadLimit p.points.length p.nextSegment then
        { s.link with tx := none, slots := s.link.slots.set k .free,
                      readyOrder := s.link.readyOrder.filter (· ≠ k) }
       else { s.link with tx := none,
                          slots := s.link.slots.set k (.sending { p with nextSegment := p.nextSegment + 1 }) }) := by
  have limit : (s.withLink { s.link with tx := none }).payloadLimit = s.payloadLimit := rfl
  simp only [transmitted, sent, source, segmentSent, State.withLink_link, holds, limit]
  split <;> rfl

end

/-! ### The link comes UP -/

/-- Symbol lock just gained (section 1.1). -/
def SymbolLock.gained : SymbolLock := { held := true, idles := 0, invalids := 0 }

/-- On a link just UP, K28.5 symbols outside a frame change nothing. -/
theorem State.received_idles_of_gained {s : State} (gained : s.link.sync = .gained) (outside : s.link.partFrame = none)
    (n : Nat) : s.received (List.replicate n .idle) = s := by
  have up : s.link.up = true := congrArg SymbolLock.held gained
  have same : s.link.sync.heard = s.link.sync := by rw [gained]; rfl
  induction n with
  | zero => rfl
  | succ n ih =>
    rw [List.replicate_succ, received_cons, received_discarded up (by simp) (by simp) outside, same]
    exact ih

/-- The K28.5 symbols that complete a run of three bring the link UP, and more of them change nothing (R155). -/
theorem State.received_idles {s : State} (down : s.link.up = false) (outside : s.link.partFrame = none) (n : Nat)
    (enough : 2 ≤ s.link.sync.idles + n) :
    s.received (List.replicate (n + 1) .idle) = s.withLink { s.link with sync := .gained } := by
  induction n generalizing s with
  | zero =>
    rw [show List.replicate (0 + 1) Symbol.idle = [.idle] from rfl, received_of_down down,
      SymbolLock.next_idle_of_le down enough, SymbolLock.gained]
  | succ n ih =>
    rw [List.replicate_succ, received_cons, received_of_down down]
    by_cases last : 2 ≤ s.link.sync.idles
    · rw [SymbolLock.next_idle_of_le down last]
      exact received_idles_of_gained (s := s.withLink { s.link with sync := .gained }) rfl outside (n + 1)
    · rw [SymbolLock.next_idle_of_lt down (not_le.1 last)]
      have fewer : 2 ≤ s.link.sync.idles + 1 + n := by omega
      exact ih (s := s.withLink { s.link with sync := { s.link.sync with idles := s.link.sync.idles + 1 } }) down
        outside fewer

/-! ### The link goes DOWN -/

/-- The link DOWN, the frame being sent and the upstream frame cut off (R155, R156, R165). -/
def RecorderLink.cut (l : RecorderLink) : RecorderLink := { l with sync := .none, partFrame := none, tx := none }

/-- The state after the link has gone DOWN, for an event queue with room: an upstream frame cut raises REQ_CHECK
(R165). -/
def State.linkDown (s : State) : State :=
  if s.link.partFrame.isSome then (s.withLink s.link.cut).reported .reqCheck else s.withLink s.link.cut

section
variable {s : State}

theorem State.linkDown_sync (s : State) : s.linkDown.link.sync = .none := by
  unfold linkDown
  split
  · rw [State.reported_frame]
    rfl
  · rfl

/-- The fourth invalid symbol in a row takes the link DOWN (R155). -/
theorem State.received_invalid_of_le (up : s.link.up = true) (many : 3 ≤ s.link.sync.invalids)
    (room : s.link.partFrame.isSome = true → s.room 1) : s.received [.invalid] = s.linkDown := by
  have held : s.link.sync.held = true := up
  have lost : s.received [.invalid] = ((Work.of s).goDown .none).st := by
    simp [received, Work.receive, SymbolLock.next_invalid_of_le up many, held, SymbolLock.none]
  rw [lost, linkDown, Work.goDown]
  cases h : s.link.partFrame with
  | none => simp [h, Work.of_eq, RecorderLink.cut]
  | some part =>
    have free : (s.withLink s.link.cut).room 1 := room (by rw [h]; rfl)
    simp only [Work.of_eq, Work.modify_mk, h, Option.isSome_some, Work.raiseIf_true, if_true]
    change ((Work.mk (s.withLink s.link.cut) none).raise .reqCheck).settle.st = _
    rw [Work.raise_mk (by decide) free, Work.settle_mk]

/-- On a DOWN link with no K28.5 symbol just received, other symbols change nothing. -/
theorem State.received_invalids_of_none (lost : s.link.sync = .none) (n : Nat) :
    s.received (List.replicate n .invalid) = s := by
  have down : s.link.up = false := congrArg SymbolLock.held lost
  have same : s.link.sync.next .invalid = s.link.sync := by rw [lost]; rfl
  induction n with
  | zero => rfl
  | succ n ih =>
    rw [List.replicate_succ, received_cons, received_of_down down, same]
    exact ih

/-- The invalid symbols that complete a run of four take the link DOWN, whatever of a frame they joined on the way, and
more of them change nothing (R155, R165). -/
theorem State.received_invalids (up : s.link.up = true) (room : s.link.partFrame.isSome = true → s.room 1) (n : Nat)
    (enough : 3 ≤ s.link.sync.invalids + n) : s.received (List.replicate (n + 1) .invalid) = s.linkDown := by
  induction n generalizing s with
  | zero => exact received_invalid_of_le up enough room
  | succ n ih =>
    rw [List.replicate_succ, received_cons]
    by_cases last : 3 ≤ s.link.sync.invalids
    · rw [received_invalid_of_le up last room]
      exact received_invalids_of_none s.linkDown_sync (n + 1)
    · rw [received_invalid_of_lt up (not_le.1 last)]
      have fewer : 3 ≤ s.link.sync.invalids + 1 + n := by omega
      have later := ih (s := s.withLink { s.link with
        sync := { s.link.sync with invalids := s.link.sync.invalids + 1 }
        partFrame := s.link.partFrame.map (· ++ [.invalid]) }) up (fun h => room (Option.isSome_map.symm.trans h)) fewer
      rw [later]
      simp only [linkDown, State.withLink_link, Option.isSome_map]
      rfl

end

/-! ### The commands -/

theorem exec_recorderLinkUp_of_up {s : State} (up : s.link.up = true) : exec .recorderLinkUp s = .next s := if_pos up

theorem exec_recorderLinkUp_of_down {s : State} (down : s.link.up = false) :
    exec .recorderLinkUp s = .next (s.received (List.replicate 3 .idle)) := by
  have notUp : ¬ s.link.up = true := by rw [down]; exact Bool.false_ne_true
  exact (if_neg notUp).trans (exec_requestFrame s _)

theorem exec_recorderLinkDown_of_up {s : State} (up : s.link.up = true) (xs : List Symbol) :
    exec (.recorderLinkDown xs) s = exec (.requestFrame xs) s := if_pos up

theorem exec_recorderLinkDown_of_down {s : State} (down : s.link.up = false) (xs : List Symbol) :
    exec (.recorderLinkDown xs) s = .next s :=
  if_neg (by rw [down]; exact Bool.false_ne_true)

/-- Settles O57: the frame sent by its source, the link state by its runs of symbols. -/
theorem framesAndLinkState : Obligations.FramesAndLinkState := by
  intro s
  refine ⟨rfl, ProfileSlot.profile_eq_some_iff, fun idle => ?_, fun t rs x sent source oldest => ⟨?_, ?_⟩,
    fun t sent source => ?_, fun t k p sent source holds => ?_, exec_recorderLinkUp_of_up, fun down => ?_, fun up => ?_⟩
  · rw [exec_frameTransmitted_of_not_due (State.resetDue_of_none idle), State.transmitted, idle]
  · intro waiting kind result
    exact exec_frameTransmitted_of_due ((State.resetDue_of_response sent source oldest).2 ⟨waiting, kind, result⟩)
  · intro ordinary
    have due : s.resetDue = false := by
      rw [← Bool.not_eq_true, State.resetDue_of_response sent source oldest]
      tauto
    rw [exec_frameTransmitted_of_not_due due, State.transmitted_response sent source, oldest, List.tail_cons]
  · rw [exec_frameTransmitted_of_not_due (State.resetDue_of_other sent (by rw [source]; nofun)),
      State.transmitted_event sent source]
  · rw [exec_frameTransmitted_of_not_due (State.resetDue_of_other sent (by rw [source]; nofun)),
      State.transmitted_segment sent source holds]
    rfl
  · refine ⟨exec_recorderLinkDown_of_down down, fun x hx => ?_, fun few => ?_, fun many => ?_, fun outside => ?_⟩
    · rw [exec_requestFrame, State.received_of_down down, SymbolLock.next_of_ne_idle down hx]
    · rw [exec_requestFrame, State.received_of_down down, SymbolLock.next_idle_of_lt down few]
    · rw [exec_requestFrame, State.received_of_down down, SymbolLock.next_idle_of_le down many]
    · rw [exec_recorderLinkUp_of_down down, State.received_idles down outside 2 (Nat.le_add_left ..)]
      rfl
  · have fourth (room : s.link.partFrame.isSome = true → s.room 1) :
        exec (.recorderLinkDown [.invalid, .invalid, .invalid, .invalid]) s = .next s.linkDown := by
      rw [exec_recorderLinkDown_of_up up, exec_requestFrame]
      exact congrArg _ (State.received_invalids up room 3 (Nat.le_add_left ..))
    refine ⟨exec_recorderLinkDown_of_up up, fun few outside => ?_, fun outside => ?_, fun inside room => ?_,
      fun many inside room => ?_⟩
    · rw [exec_recorderLinkDown_of_up up, exec_requestFrame, State.received_invalid_of_lt up few, outside,
        Option.map_none, ← outside]
    · rw [fourth (fun inside => by rw [outside] at inside; exact absurd inside Bool.false_ne_true), State.linkDown,
        outside]
      rfl
    · rw [fourth fun _ => room, State.linkDown, if_pos inside]
      rfl
    · rw [exec_requestFrame, State.received_invalid_of_le up many fun _ => room, State.linkDown, if_pos inside]
      rfl

end Sys2Proof.Machine
end

section
/-! SUPPORT. Upstream frames and the bytes they are made of: the numbers that bytes spell, the CRC-16, and the requests that
the frame check of R165 reads (§12.1, §12.3, R165, R182). -/

namespace Sys2Proof.Machine

/-! ### Numbers in bytes -/

theorem leBytes_getElem? {n j : Nat} (v : Nat) (h : j < n) :
    (leBytes n v)[j]? = some (BitVec.ofNat 8 (v / 256 ^ j)) := by
  induction n generalizing v j with
  | zero => exact absurd h (Nat.not_lt_zero j)
  | succ n ih =>
    cases j with
    | zero => simp [leBytes]
    | succ j =>
      rw [leBytes, List.getElem?_cons_succ, ih (v / 256) (Nat.lt_of_succ_lt_succ h), Nat.div_div_eq_div_mul,
        ← pow_succ']

theorem readLe_lt (bytes : List Byte) : readLe bytes < 256 ^ bytes.length := by
  induction bytes with
  | nil => decide
  | cons b bytes ih =>
    have small := b.isLt
    rw [readLe, List.length_cons, pow_succ]
    omega

/-- Bytes are those of the number they spell (§0.5). -/
theorem leBytes_readLe (bytes : List Byte) : leBytes bytes.length (readLe bytes) = bytes := by
  induction bytes with
  | nil => rfl
  | cons b bytes ih =>
    have small := b.isLt
    have low : BitVec.ofNat 8 (readLe (b :: bytes)) = b := by
      apply BitVec.eq_of_toNat_eq
      rw [BitVec.toNat_ofNat, readLe]
      omega
    have high : readLe (b :: bytes) / 256 = readLe bytes := by
      rw [readLe]
      omega
    rw [List.length_cons, leBytes, low, high, ih]

/-- Bytes are those of the signed number they spell in two's complement, and that number is in their range (§12). -/
theorem leSigned_readSigned (bytes : List Byte) :
    leSigned bytes.length (readSigned bytes) = bytes ∧
      -(256 ^ bytes.length) ≤ 2 * readSigned bytes ∧ 2 * readSigned bytes < 256 ^ bytes.length := by
  have below := readLe_lt bytes
  have spelled := leBytes_readLe bytes
  have cast : (256 : Int) ^ bytes.length = ((256 ^ bytes.length : Nat) : Int) := by push_cast; rfl
  rw [leSigned, readSigned, cast]
  generalize 256 ^ bytes.length = size at below
  generalize readLe bytes = v at below spelled
  have residue : (v : Int) % size = v := Int.emod_eq_of_lt (by omega) (by omega)
  split_ifs with half
  · rw [residue, Int.toNat_natCast]
    exact ⟨spelled, by omega, by omega⟩
  · rw [Int.sub_emod_right, residue, Int.toNat_natCast]
    exact ⟨spelled, by omega, by omega⟩

/-! ### The CRC -/

theorem crcBit_eq (r : BitVec 16) (b : Bool) :
    crcBit r b = if r.getLsbD 15 = b then r <<< 1 else (r <<< 1) ^^^ 0x1021 := by
  rw [crcBit, BitVec.msb_eq_getLsbD_last]
  cases r.getLsbD 15 <;> cases b <;> rfl

/-- The CRC goes on byte by byte, each most significant bit first (R182). -/
theorem crc16_concat (bytes : List Byte) (b : Byte) : crc16 (bytes ++ [b]) =
    [7, 6, 5, 4, 3, 2, 1, 0].foldl (fun (r : BitVec 16) k =>
      if r.getLsbD 15 = b.getLsbD k then r <<< 1 else (r <<< 1) ^^^ 0x1021) (crc16 bytes) := by
  rw [crc16, List.foldl_append, List.foldl_cons, List.foldl_nil, crcByte]
  simp only [crcBit_eq]
  rfl

/-! ### The frame check -/

/-- The symbols that give bytes are those bytes and nothing else (log entry 34). -/
theorem dataBytes_eq_some_iff {symbols : List Symbol} {bytes : List Byte} :
    dataBytes symbols = some bytes ↔ symbols = bytes.map .data := by
  induction symbols generalizing bytes with
  | nil => cases bytes <;> simp [dataBytes]
  | cons x symbols ih =>
    cases x with
    | data b => cases bytes <;> simp [dataBytes, ih, and_comm]
    | idle | delimiter | invalid => cases bytes <;> simp [dataBytes]

/-- The two checks of R165 on the bytes after the length field, with the payload they leave, hold of the bytes of that
payload's frame and of no others. -/
theorem frameChecked_iff {kind tag l0 l1 : Byte} {rest payload : List Byte} :
    ((rest.length = readLe [l0, l1] + 2 ∧
        rest.drop (readLe [l0, l1]) = crcBytes (kind :: tag :: l0 :: l1 :: rest.take (readLe [l0, l1]))) ∧
      rest.take (readLe [l0, l1]) = payload) ↔
    payload.length < 65536 ∧ kind :: tag :: l0 :: l1 :: rest = linkFrame kind tag payload := by
  constructor
  · rintro ⟨⟨whole, checked⟩, taken⟩
    have size : payload.length = readLe [l0, l1] := by rw [← taken, List.length_take]; omega
    have field : leBytes 2 payload.length = [l0, l1] := size ▸ leBytes_readLe [l0, l1]
    have short : readLe [l0, l1] < 65536 := by simpa using readLe_lt [l0, l1]
    refine ⟨size ▸ short, ?_⟩
    rw [taken] at checked
    rw [linkFrame, field, ← List.take_append_drop (readLe [l0, l1]) rest, taken, checked]
    rfl
  · rintro ⟨short, frame⟩
    have size : readLe (leBytes 2 payload.length) = payload.length := readLe_leBytes_two short
    have length : ∀ body : List Byte, (crcBytes body).length = 2 := fun body => leBytes_length 2 _
    -- the two bytes of the length field stand in the frame as `leBytes` gives them
    simp only [linkFrame, leBytes, List.cons_append, List.nil_append, List.cons.injEq, true_and] at frame size
    obtain ⟨rfl, rfl, rfl⟩ := frame
    rw [size, List.length_append, length, List.take_left, List.drop_left]
    exact ⟨⟨rfl, rfl⟩, rfl⟩

/-- A request is read from its own frame and from no other symbols (R165). -/
theorem parseRequest_eq_some_iff {symbols : List Symbol} {r : Request} :
    parseRequest symbols = some r ↔
      r.payload.length < 65536 ∧ symbols = (linkFrame r.kind r.tag r.payload).map .data := by
  constructor
  · intro h
    unfold parseRequest at h
    split at h
    · next kind tag l0 l1 rest bytes =>
      rw [Option.ite_none_right_eq_some, Option.some.injEq] at h
      obtain ⟨checks, rfl⟩ := h
      obtain ⟨short, frame⟩ := frameChecked_iff.1 ⟨checks, rfl⟩
      exact ⟨short, frame ▸ dataBytes_eq_some_iff.1 bytes⟩
    · exact absurd h (by simp)
  · rintro ⟨short, rfl⟩
    obtain ⟨checks, payload⟩ := frameChecked_iff.2 ⟨short, rfl⟩
    rw [parseRequest, dataBytes_eq_some_iff.2 rfl]
    refine (if_pos checks).trans ?_
    rw [payload]

/-- Settles O2: the two directions of the frame check by `parseRequest_eq_some_iff`, the CRC by `crc16_concat`, and the
bytes of numbers by their places and by `leSigned_readSigned`. -/
theorem requestFrameRoundTrip : Obligations.RequestFrameRoundTrip :=
  ⟨fun _ short => parseRequest_eq_some_iff.2 ⟨short, rfl⟩, fun _ _ => parseRequest_eq_some_iff, rfl, crc16_concat,
    fun n v => ⟨leBytes_length n v, fun _ h => leBytes_getElem? v h⟩, fun _ _ => rfl, leSigned_readSigned⟩

end Sys2Proof.Machine
end

section
/-! SUPPORT. The requests the Management Agent owns, accepted (R169 to R173, R175, R176): the payload of each response, the
cause set under CLEAR_CAUSES, the bits on HC_TXD, and the Agent held by an accepted RESET. -/

namespace Sys2Proof.Machine

/-! ### Answers -/

/-- A request that is only answered DONE changes nothing else (R167). -/
theorem State.Offers.exec_of_finish {s : State} {k : RequestKind} {r : Request} {rest : List Request}
    {payload : List Byte} (h : s.Offers k r rest)
    (hbody : k.body r { st := s.withLink { s.link with requests := rest }, fatal := none } =
      ({ st := s.withLink { s.link with requests := rest }, fatal := none } : Work).finish r payload) :
    exec (performingCommand (some k)) s = .next (s.answered rest (doneTo r payload)) := by
  rw [h.exec_eq, hbody, Work.finish_done]

/-- Settles O35: the payload by `State.Offers.exec_of_finish`, any other length by `RequestKind.body_of_badLength`. -/
theorem identifyAnswers : Obligations.IdentifyAnswers := by
  refine fun s r rest offers => ⟨fun empty => ?_, fun filled room => ?_⟩
  · exact offers.exec_of_finish (if_pos empty)
  · exact offers.exec_of_refuse room (RequestKind.body_of_badLength fun none => filled (List.length_eq_zero_iff.1 none))

/-! ### READ_STATUS -/

theorem RunState.code_eq (x : RunState) :
    x.code = match x with | .idle => 0 | .running => 1 | .paused => 2 | .fault => 3 := by
  cases x <;> rfl

theorem LockState.code_eq (x : LockState) : x.code = match x with | .searching => 0 | .locked => 1 := by
  cases x <;> rfl

theorem Direction.code_eq (x : Direction) : x.code = match x with | .forward => 0 | .reverse => 1 := by
  cases x <;> rfl

/-- The slot byte of a selection: FFh with no slot, no segment or no selection (R183, §12.3). -/
theorem slotByte_slotOf (table : List RouteEntry) (sel : Option Nat) : slotByte (slotOf table sel) =
    match sel.bind (table[·]?) with
    | some (.segment _ (some k) _) => BitVec.ofNat 8 k.val
    | _ => 0xFF := by
  rw [slotOf]
  rcases sel.bind (table[·]?) with _ | (⟨_, _ | _, _⟩ | _) <;> rfl

theorem faultBytes_eq (x : Option FaultRecord) : faultBytes x =
    match x with
    | some f => [BitVec.ofNat 8 f.cause.bit] ++ leBytes 4 f.ringSeq ++ leSigned 4 f.chainage
    | none => [0xFF, 0, 0, 0, 0, 0, 0, 0, 0] := by
  cases x <;> rfl

theorem ProfileSlot.not_isFree (x : ProfileSlot) : (!x.isFree) = decide (x ≠ .free) := by
  cases x <;> simp [ProfileSlot.isFree]

/-- The slots not FREE, counted (R170). -/
theorem RecorderLink.occupied_eq (l : RecorderLink) :
    l.occupied = ([0, 1, 2] : List (Fin 3)).countP fun k => l.slots[k] ≠ .free := by
  simp only [occupied, ProfileSlot.not_isFree, List.countP_eq_length_filter]
  rfl

/-- With the Agent free every response place taken is a queued response's (R166). -/
theorem RecorderLink.placesTaken_of_free {l : RecorderLink} (h : l.agent = .free) :
    l.placesTaken = l.responses.length := by
  rw [placesTaken, h]
  rfl

/-- Settles O36, field by field of the layout. -/
theorem readStatusAnswers : Obligations.ReadStatusAnswers := by
  intro s r rest offers empty run lock direction slot occupied
  refine offers.exec_of_finish ((if_pos empty).trans (congrArg _ ?_))
  have runCode : s.ctrl.run.code = run := RunState.code_eq _
  have lockCode : s.head.lock.code = lock := LockState.code_eq _
  have directionCode : s.odo.direction.code = direction := Direction.code_eq _
  have slotCode : slotByte (slotOf s.route.entries s.route.current) = slot := slotByte_slotOf _ _
  have places : ({ s.link with requests := rest } : RecorderLink).placesTaken = s.link.responses.length :=
    RecorderLink.placesTaken_of_free offers.free
  have slots : ({ s.link with requests := rest } : RecorderLink).occupied = occupied := RecorderLink.occupied_eq _
  rw [← runCode, ← lockCode, ← directionCode, ← slotCode, ← places, ← slots]
  rw [State.statusBytes, State.withLink_ctrl, faultBytes_eq]
  simp only [adjustedBytes, List.append_assoc, List.cons_append, List.nil_append]
  rfl

/-! ### CLEAR_CAUSES -/

/-- The causes in the order of their bits (section 11.1, §12.3). -/
def allCauses : List Cause :=
  [.headFrameLoss, .odoSlip, .odoGlitch, .profileSkip, .paramAdjusted, .ringShort, .ringLong, .spacingWide, .offRoute,
    .unmatchedTag, .tableFull, .chainageLimit, .headUnlocked, .headStall, .headUnstable, .headLost, .eventLoss, .reqCheck,
    .reqUnknown, .reqLength, .reqState, .reqRange, .reqBusy, .reqRoute, .reqCommit]

theorem allCauses_getElem?_bit (c : Cause) : allCauses[c.bit]? = some c := by cases c <;> rfl

/-- No two causes have one bit. -/
theorem Cause.bit_inj {c d : Cause} : c.bit = d.bit ↔ c = d :=
  ⟨fun same => Option.some.inj (by rw [← allCauses_getElem?_bit, same, allCauses_getElem?_bit]), congrArg _⟩

theorem Cause.bit_lt (c : Cause) : c.bit < 25 := by cases c <;> decide

theorem Cause.cls_eq (c : Cause) : c.cls =
    if c.bit ≤ 3 then .correctable else if c.bit ≤ 12 then .nonfatal else if c.bit ≤ 16 then .fatal else .refused := by
  cases c <;> rfl

/-- The setting of a flag sets that one alone (R177). -/
theorem flagSet_setFlag_eq (causes : BitVec 25) (c d : Cause) :
    flagSet (setFlag causes c) d = (flagSet causes d || d == c) := by
  have bit : (1#25 <<< c.bit).getLsbD d.bit = (d == c) := by
    rw [Bool.eq_iff_iff, beq_iff_eq, ← Cause.bit_inj, ← BitVec.twoPow_eq, BitVec.getLsbD_twoPow]
    simp [Cause.bit_lt, eq_comm]
  rw [flagSet, setFlag, BitVec.getLsbD_or, bit, flagSet]

/-- A clearing clears the flags it names and no other (R171). -/
theorem flagSet_clearFlags (causes : BitVec 25) (named : Nat) (c : Cause) :
    flagSet (clearFlags causes named) c = (flagSet causes c && !named.testBit c.bit) := by
  rw [flagSet, clearFlags, BitVec.getLsbD_and, BitVec.getLsbD_not, BitVec.getLsbD_ofNat]
  simp only [c.bit_lt, decide_true, Bool.true_and, flagSet]

theorem readLe_four (b0 b1 b2 b3 : Byte) :
    readLe [b0, b1, b2, b3] = b0.toNat + 256 * b1.toNat + 65536 * b2.toNat + 16777216 * b3.toNat := by
  simp only [readLe]
  omega

/-- Settles O37: the causes by cases, the flags by `flagSet_setFlag_eq` and `flagSet_clearFlags`. -/
theorem clearCausesClears : Obligations.ClearCausesClears := by
  refine ⟨rfl, fun c => ⟨c.bit_lt, c.cls_eq⟩, fun causes c => ⟨rfl, flagSet_setFlag_eq causes c⟩,
    fun s k => by cases k <;> rfl, fun s r rest b0 b1 b2 b3 offers payload => ?_⟩
  let cleared := clearFlags s.causes (readLe r.payload)
  refine ⟨(s.withCauses cleared).answered rest (doneTo r (leBytes 4 cleared.toNat)), ?_, rfl, fun c => ?_⟩
  · exact offers.exec_eq.trans (congrArg Work.done (if_pos (congrArg List.length payload)))
  · rw [← readLe_four, ← payload]
    exact flagSet_clearFlags ..

/-! ### READ_INTRUSIONS -/

/-- Settles O38: each entry by `Intrusion.bytes_eq`, then its owned sectors. -/
theorem readIntrusionsAnswers : Obligations.ReadIntrusionsAnswers := by
  intro s r rest offers empty
  have answer := offers.exec_of_finish (payload := s.tracker.tableBytes) (if_pos empty)
  have entries : ∀ x : Intrusion, x.bytes = _ := fun x => x.bytes_eq (slotByte_eq _)
  simp only [SectorTracker.tableBytes, entries] at answer
  exact answer

/-! ### HEAD_PASS -/

theorem State.hcTxd_of_free {s : State} (h : s.link.agent = .free) : s.hcTxd = .high := by
  rw [hcTxd, h]

/-- HC_TXD carries bit `k` of byte `i` for 217 cycles (R173). -/
theorem State.hcTxd_of_headPass {s : State} {tag : Byte} {bytes : List Byte} {i k j : Nat} (hi : i < bytes.length)
    (hk : k < 10) (hj : j < 217) (h : s.link.agent = .headPass tag bytes ((10 * i + k) * 217 + j)) :
    s.hcTxd = framedBit bytes[i] k := by
  have bit : ((10 * i + k) * 217 + j) / Config.cyclesPerBit = 10 * i + k := by
    rw [Config.cyclesPerBit]
    omega
  have byteOf : (10 * i + k) / Config.bitsPerByte = i := by
    rw [Config.bitsPerByte]
    omega
  have place : (10 * i + k) % Config.bitsPerByte = k := by
    rw [Config.bitsPerByte]
    omega
  simp only [hcTxd, h, bit, byteOf, place, List.getElem?_eq_getElem hi]

/-- The start bit, the data bits and the stop bit of a byte (R173). -/
theorem framedBit_eq (b : Byte) {k : Nat} (hk : k < 10) : framedBit b k =
    if k = 0 then .low else if k = 9 then .high else if b.getLsbD (k - 1) then .high else .low := by
  rw [framedBit]
  by_cases stop : k = 9
  · subst stop
    rfl
  · rw [if_neg stop, if_pos (show k ≤ 8 by omega)]

/-- Settles O39: the request by its row, its end by the Agent's state, and the line by `State.hcTxd_of_headPass`. -/
theorem headPassAnswers : Obligations.HeadPassAnswers := by
  refine ⟨fun s r rest offers one most => ?_, fun s tag bytes cycles sending => ?_,
    fun s tag bytes i k j hi hk hj sending => ?_, fun s => State.hcTxd_of_free⟩
  · exact offers.exec_eq.trans (congrArg Work.done (if_pos ⟨one, most⟩))
  · change execHeadPassDone s = _
    rw [execHeadPassDone, sending]
    rfl
  · rw [State.hcTxd_of_headPass hi hk hj sending, framedBit_eq _ hk]

/-! ### RESET -/

/-- While an accepted RESET waits the Agent takes no request (R175). -/
theorem State.takes_of_resetWaiting {s : State} (h : s.link.agent = .resetWaiting)
    (serves : Option RequestKind → Bool) : s.takes serves = none := by
  have busy : s.link.ready = false := by simp [RecorderLink.ready, h]
  unfold takes
  split
  · rw [busy]
    rfl
  · rfl

/-- Settles O40: the answer by the row, and the Agent held by `State.takes_of_resetWaiting`. -/
theorem resetRequestHolds : Obligations.ResetRequestHolds := by
  refine ⟨fun s r rest offers empty => ?_, fun s k waits => ?_⟩
  · exact offers.exec_eq.trans (congrArg Work.done (if_pos empty))
  · have idle := State.takes_of_resetWaiting waits
    cases k with
    | none => exact perform_of_none (idle _)
    | some k => rw [exec_performingCommand, perform_of_none (idle _)]

end Sys2Proof.Machine
end

section
/-! SUPPORT. The time base, the pins and the queue of commands: no command moves the queue, and the other two only the
commands of the inputs and the power-on reset. -/

namespace Sys2Proof.Machine

/-! ### The outside -/

/-- What of the state the block itself does not work on: the time base, the levels at the pins, the commands waiting. -/
def State.outside (s : State) : Clock × Pins × List Instr := (s.clock, s.pins, s.pending)

section
variable {s t : State}

theorem State.outside_eq_iff : t.outside = s.outside ↔ t.clock = s.clock ∧ t.pins = s.pins ∧ t.pending = s.pending := by
  simp only [State.outside, Prod.mk.injEq]

theorem State.Reports.outside (h : s.Reports t) : t.outside = s.outside := by rw [h.frame]; rfl
theorem State.Takes.outside (h : s.Takes t) : t.outside = s.outside := by rw [h.frame]; rfl
theorem State.Drops.outside (h : s.Drops t) : t.outside = s.outside := by rw [h.frame]; rfl
theorem State.Leaves.outside (h : s.Leaves t) : t.outside = s.outside := by rw [h.frame]; rfl

theorem State.Faulted.outside {c : Cause} (h : s.Faulted c t) : t.outside = s.outside := by rw [h.frame]; rfl

end

section
variable (s : State)

@[simp] theorem State.withFilters_outside (x : Filters) : (s.withFilters x).outside = s.outside := rfl
@[simp] theorem State.withHead_outside (x : HeadLink) : (s.withHead x).outside = s.outside := rfl
@[simp] theorem State.withRing_outside (x : RingAssembler) : (s.withRing x).outside = s.outside := rfl
@[simp] theorem State.withParams_outside (x : ParamStore) : (s.withParams x).outside = s.outside := rfl
@[simp] theorem State.setEnvelope_outside (k : SlotId) (x : EnvelopeSlot) : (s.setEnvelope k x).outside = s.outside :=
  rfl
@[simp] theorem State.withTracker_outside (x : SectorTracker) : (s.withTracker x).outside = s.outside := rfl
@[simp] theorem State.withOdo_outside (x : Odometer) : (s.withOdo x).outside = s.outside := rfl
@[simp] theorem State.withRoute_outside (x : RouteUnit) : (s.withRoute x).outside = s.outside := rfl
@[simp] theorem State.withTable_outside (x : List RouteEntry) : (s.withTable x).outside = s.outside := rfl
@[simp] theorem State.withCtrl_outside (x : RunController) : (s.withCtrl x).outside = s.outside := rfl
@[simp] theorem State.withLink_outside (x : RecorderLink) : (s.withLink x).outside = s.outside := rfl
@[simp] theorem State.withAgent_outside (x : Agent) : (s.withAgent x).outside = s.outside := rfl
@[simp] theorem State.withCauses_outside (x : BitVec 25) : (s.withCauses x).outside = s.outside := rfl
@[simp] theorem State.commitWaiting_outside : s.commitWaiting.outside = s.outside := rfl
@[simp] theorem State.afterReset_outside : s.afterReset.outside = s.outside := rfl

@[simp] theorem State.dropProfile_outside (r : RingContext) : (s.dropProfile r).outside = s.outside :=
  (s.dropProfile_drops r).outside

@[simp] theorem State.makeReady_outside (r : RingContext) (x : Summary) : (s.makeReady r x).outside = s.outside := by
  unfold State.makeReady
  split
  · split <;> rfl
  · rfl

@[simp] theorem State.takeSample_outside (raw : Nat) (x : Sample) : (s.takeSample raw x).outside = s.outside := by
  unfold State.takeSample State.deliver
  split
  · dsimp only
    split
    · split <;> rfl
    · rfl
  · rfl

@[simp] theorem State.takeSamples_outside (a0 step j : Nat) (xs : List Sample) :
    (s.takeSamples a0 step j xs).outside = s.outside := by
  induction xs generalizing s j with
  | nil => rfl
  | cons x xs ih => exact (ih _ _).trans (s.takeSample_outside _ x)

@[simp] theorem State.addMissing_outside (gap : Nat) : (s.addMissing gap).outside = s.outside := by
  unfold State.addMissing
  split <;> rfl

@[simp] theorem State.pressMark_outside : s.pressMark.outside = s.outside := by
  unfold State.pressMark
  split
  · split <;> rfl
  · rfl

@[simp] theorem State.choose_outside : s.choose.outside = s.outside := by
  unfold State.choose
  split <;> rfl

@[simp] theorem State.segmentSent_outside (k : Fin 3) : (s.segmentSent k).outside = s.outside := by
  unfold State.segmentSent
  split
  · split <;> rfl
  · rfl

@[simp] theorem State.transmitted_outside : s.transmitted.outside = s.outside := by
  unfold State.transmitted
  split
  · rfl
  · dsimp only
    split
    · rfl
    · rfl
    · exact State.segmentSent_outside _ _

end

/-! ### A step under way

Each operation on a step under way leaves the outside as it found it. -/

section
variable (w : Work)

@[simp] theorem Work.ite_outside {c : Prop} [Decidable c] (w w' : Work) :
    (if c then w else w').st.outside = if c then w.st.outside else w'.st.outside :=
  apply_ite (fun w : Work => w.st.outside) c w w'

theorem Work.foldl_outside {α : Type} {f : Work → α → Work}
    (hf : ∀ (w : Work) (x : α), (f w x).st.outside = w.st.outside)
    (xs : List α) : (xs.foldl f w).st.outside = w.st.outside := by
  induction xs generalizing w with
  | nil => rfl
  | cons x xs ih => exact (ih _).trans (hf w x)

@[simp] theorem Work.queue_outside (b : EventBody) : (w.queue b).st.outside = w.st.outside :=
  (w.queue_reports b).outside

@[simp] theorem Work.raise_outside (c : Cause) : (w.raise c).st.outside = w.st.outside := (w.raise_reports c).outside

@[simp] theorem Work.raiseIf_outside (b : Bool) (c : Cause) : (w.raiseIf b c).st.outside = w.st.outside :=
  (w.raiseIf_reports b c).outside

@[simp] theorem Work.queueMark_outside (r : RingContext) (x : RingStatus) :
    (w.queueMark r x).st.outside = w.st.outside :=
  (w.queueMark_reports r x).outside

@[simp] theorem Work.cancelFix_outside : w.cancelFix.st.outside = w.st.outside := by
  rw [w.cancelFix_frame.1]
  rfl

@[simp] theorem Work.closeAll_outside (why : CloseCause) (c : Int) : (w.closeAll why c).st.outside = w.st.outside := by
  rw [(w.closeAll_frame why c).1]
  rfl

@[simp] theorem Work.takeLive_outside : w.takeLive.st.outside = w.st.outside := w.takeLive_takes.outside

@[simp] theorem Work.takeLiveIfWaiting_outside : w.takeLiveIfWaiting.st.outside = w.st.outside :=
  w.takeLiveIfWaiting_takes.outside

@[simp] theorem Work.takeRun_outside : w.takeRun.st.outside = w.st.outside := by
  rw [Work.takeRun, Work.modify_st, State.withFilters_outside]
  exact (w.take_takes ParamClass.isRun true).outside

@[simp] theorem Work.leaveRunning_outside : w.leaveRunning.st.outside = w.st.outside := w.leaveRunning_leaves.outside

/-- Fault entry is work of the block itself. -/
@[simp] theorem Work.settle_outside : w.settle.st.outside = w.st.outside := by
  rcases w.settle_cases with ⟨same, -⟩ | ⟨_, -, -, faulted⟩
  · rw [same]
  · exact faulted.outside

@[simp] theorem Work.setAccumulator_outside (sum : Int) : (w.setAccumulator sum).st.outside = w.st.outside := by
  simp [Work.setAccumulator]

@[simp] theorem Work.odometerUpdate_outside : w.odometerUpdate.st.outside = w.st.outside := by
  simp [Work.odometerUpdate]

@[simp] theorem Work.placeFix_outside (f : Fix) : (w.placeFix f).st.outside = w.st.outside := by
  unfold Work.placeFix
  dsimp only
  split <;> simp

@[simp] theorem Work.takeStrobe_outside : w.takeStrobe.st.outside = w.st.outside := by
  unfold Work.takeStrobe
  dsimp only
  split <;> simp

/-! ### Rings -/

@[simp] theorem Work.applyFix_outside : w.applyFix.st.outside = w.st.outside := by
  unfold Work.applyFix
  split <;> simp

@[simp] theorem Work.selectSegment_outside : w.selectSegment.st.outside = w.st.outside := by simp [Work.selectSegment]

@[simp] theorem Work.claimProfile_outside (n d : Nat) : (w.claimProfile n d).1.st.outside = w.st.outside := by
  unfold Work.claimProfile
  split
  · split <;> simp
  · rfl

/-- The opening of a ring reads the time base and leaves it. -/
@[simp] theorem Work.openRing_outside : w.openRing.st.outside = w.st.outside := by
  have steps : w.openingSteps.1.st.outside = w.st.outside := by simp [Work.openingSteps]
  simpa [Work.openRing] using steps

@[simp] theorem Work.evaluate_outside (r : RingContext) : (w.evaluate r).st.outside = w.st.outside :=
  Work.foldl_outside _ (fun w e => (w.emit_reports e).outside) _

@[simp] theorem Work.closeAccepted_outside (r : RingContext) : (w.closeAccepted r).st.outside = w.st.outside := by
  simp [Work.closeAccepted]

@[simp] theorem Work.closeDiscarded_outside (r : RingContext) (tooLong : Bool) :
    (w.closeDiscarded r tooLong).st.outside = w.st.outside := by
  simp [Work.closeDiscarded]

@[simp] theorem Work.closeRing_outside (r : RingContext) : (w.closeRing r).st.outside = w.st.outside := by
  unfold Work.closeRing
  dsimp only
  split <;> simp

@[simp] theorem Work.ringStart_outside : w.ringStart.st.outside = w.st.outside := by
  unfold Work.ringStart
  split <;> simp

/-! ### The head link -/

@[simp] theorem Work.handOver_outside (f : HeadFrame) : (w.handOver f).st.outside = w.st.outside := by
  cases f <;> simp [Work.handOver, Work.headNote]

@[simp] theorem Work.goodFrame_outside (seq : Byte) (f : HeadFrame) :
    (w.goodFrame seq f).st.outside = w.st.outside := by
  unfold Work.goodFrame
  split <;> simp [Work.checkGap]

@[simp] theorem Work.badFrame_outside : w.badFrame.st.outside = w.st.outside := by
  unfold Work.badFrame
  split <;> simp [Work.countBad]

@[simp] theorem Work.judgeHead_outside (frame : List Byte) : (w.judgeHead frame).st.outside = w.st.outside := by
  unfold Work.judgeHead
  split <;> simp

@[simp] theorem Work.setHeadPart_outside (f : Option (List Byte)) : (w.setHeadPart f).st.outside = w.st.outside := rfl

@[simp] theorem Work.headSymbol_outside (x : Symbol) : (w.headSymbol x).st.outside = w.st.outside := by
  unfold Work.headSymbol
  split <;> simp

@[simp] theorem Work.receiveHead_outside (x : Symbol) : (w.receiveHead x).st.outside = w.st.outside := by
  simp [Work.receiveHead]

/-! ### The recorder link -/

@[simp] theorem Work.respond_outside (x : Response) : (w.respond x).st.outside = w.st.outside := rfl

@[simp] theorem Work.takeIn_outside (r : Request) : (w.takeIn r).st.outside = w.st.outside := by
  simp [Work.takeIn]

@[simp] theorem Work.judgeFrame_outside (xs : List Symbol) : (w.judgeFrame xs).st.outside = w.st.outside := by
  unfold Work.judgeFrame
  split <;> simp

@[simp] theorem Work.setPartFrame_outside (f : Option (List Symbol)) : (w.setPartFrame f).st.outside = w.st.outside :=
  rfl

@[simp] theorem Work.receiveUp_outside (x : Symbol) : (w.receiveUp x).st.outside = w.st.outside := by
  unfold Work.receiveUp
  split <;> simp

@[simp] theorem Work.receive_outside (x : Symbol) : (w.receive x).st.outside = w.st.outside := by
  simp [Work.receive, Work.goDown]

/-! ### Requests -/

@[simp] theorem Work.refuse_outside (r : Request) (why : Reason) (i : Option Nat) :
    (w.refuse r why i).st.outside = w.st.outside := by
  simp [Work.refuse]

@[simp] theorem Work.finish_outside (r : Request) (payload : List Byte) :
    (w.finish r payload).st.outside = w.st.outside :=
  rfl

@[simp] theorem Work.startAt_outside (v : Int) : (w.startAt v).st.outside = w.st.outside := by
  simp [Work.startAt, State.startRing, State.startSectors, State.startTravel, State.startRun]

@[simp] theorem Work.pauseRun_outside : w.pauseRun.st.outside = w.st.outside := by simp [Work.pauseRun]

@[simp] theorem Work.stopRun_outside : w.stopRun.st.outside = w.st.outside := by simp [Work.stopRun, State.endRun]

@[simp] theorem Work.gapClose_outside : w.gapClose.st.outside = w.st.outside := by
  unfold Work.gapClose
  split <;> simp

@[simp] theorem Work.fixTo_outside (v : Int) : (w.fixTo v).st.outside = w.st.outside := by simp [Work.fixTo]

@[simp] theorem Work.afterLiveWrite_outside : w.afterLiveWrite.st.outside = w.st.outside := by
  simp [Work.afterLiveWrite]

/-- The performing of every kind of request. -/
@[simp] theorem RequestKind.body_outside (k : RequestKind) (r : Request) : (k.body r w).st.outside = w.st.outside := by
  cases k with
  | identify | readStatus | clearCauses | readIntrusions | headPass | reset =>
    simp [body, Machine.identify, Machine.readStatus, Machine.clearCauses, Machine.readIntrusions, Machine.headPass,
      Machine.reset]
  | pause | resume | stop | clearFault =>
    simp [body, Machine.pause, Machine.resume, Machine.stop, Machine.clearFault, State.resumeRun]
  | fixChainage | trimRoute | readRoute =>
    simp only [body, Machine.fixChainage, Machine.trimRoute, Machine.readRoute]
    split <;> simp
  | setParam | getParam | commitEnvelope | readEnvelope =>
    simp only [body, Machine.setParam, Machine.getParam, Machine.commitEnvelope, Machine.readEnvelope]
    split
    · split <;> simp
    · simp
  | start =>
    simp only [body, Machine.start]
    split
    · split
      · simp
      · split
        · simp
        · split <;> simp
    · simp
  | loadEnvelope =>
    simp only [body, Machine.loadEnvelope]
    split
    · split
      · split <;> simp
      · simp
    · simp
  | loadRoute =>
    simp only [body, Machine.loadRoute]
    split
    · split
      · split
        · split
          · split <;> simp
          · simp
        · simp
      · simp
    · simp

end

/-! ### Commands -/

/-- A command answers a next state, with the outside as in `u`. -/
def AnswersOutside (u : State) (x : Result) : Prop := ∃ t, x = .next t ∧ t.outside = u.outside

namespace AnswersOutside

variable {s t u : State} {w : Work}

theorem next (h : t.outside = u.outside) : AnswersOutside u (.next t) := ⟨t, rfl, h⟩

theorem done (h : w.st.outside = u.outside) : AnswersOutside u w.done := next (w.settle_outside.trans h)

theorem ite {c : Prop} [Decidable c] {x y : Result} (hx : AnswersOutside u x) (hy : AnswersOutside u y) :
    AnswersOutside u (if c then x else y) := by
  split
  · exact hx
  · exact hy

theorem perform {body : Request → Work → Work} (h : ∀ (r : Request) (w : Work), (body r w).st.outside = w.st.outside)
    (serves : Option RequestKind → Bool) : AnswersOutside s (perform serves body s) := by
  unfold Machine.perform
  split
  · exact done (h _ _)
  · exact next rfl

/-- The command that performs the requests of a kind, or of none (R167). -/
theorem performingCommand (k : Option RequestKind) : AnswersOutside s (exec (performingCommand k) s) := by
  cases k with
  | none => exact perform (fun r w => w.refuse_outside r _ _) _
  | some k =>
    rw [exec_performingCommand]
    exact perform (fun r w => k.body_outside w r) _

theorem headSymbols (xs : List Symbol) : AnswersOutside s (xs.foldl Work.receiveHead (Work.of s)).done :=
  done (Work.foldl_outside _ Work.receiveHead_outside xs)

theorem upstreamSymbols (xs : List Symbol) : AnswersOutside s (xs.foldl Work.receive (Work.of s)).done :=
  done (Work.foldl_outside _ Work.receive_outside xs)

theorem headStall : AnswersOutside s (execHeadStall s) := ite (done (by simp)) (next rfl)

theorem wheelDecode (w : Wheel) (a b : Level) : AnswersOutside (s.acceptWheel w a b) (execWheelDecode w a b s) :=
  done (by simp [State.acceptWheel])

theorem tagStrobe : AnswersOutside (s.acceptLevel .tagStb .high) (execTagStrobe s) :=
  ite (done (by simp)) (done rfl)

theorem headPassDone : AnswersOutside s (execHeadPassDone s) := by
  unfold execHeadPassDone
  split
  · exact done (by simp)
  · exact next rfl

end AnswersOutside

/-- The state with what a command does to the outside done: the inputs' commands set the levels they stand for, a
power-on reset sets the time base to 0 (log entry 6, §0.3). -/
def State.touched (s : State) : Instr → State
  | .wheelDecode w a b => s.acceptWheel w a b
  | .tagStrobe => s.acceptLevel .tagStb .high
  | .markPress => s.acceptLevel .markKey .high
  | .inputLevelChange i v => s.withPins (s.pins.put i v)
  | .filteredFallingEdge e => s.acceptLevel (edgePin e) .low
  | .powerOnReset => s.withClock State.reset.clock
  | _ => s

/-- Every command answers a next state, and touches no more of the outside than `State.touched` does. -/
theorem exec_answersOutside (c : Instr) (s : State) : AnswersOutside (s.touched c) (exec c s) := by
  cases c with
  | headFrameGood xs | headFrameBad xs => exact .headSymbols xs
  | headStall => exact .headStall
  | odometerUpdate => exact .done (Work.odometerUpdate_outside _)
  | wheelDecode w a b => exact .wheelDecode w a b
  | tagStrobe => exact .tagStrobe
  | markPress => exact .next (State.pressMark_outside _)
  | requestFrame xs => exact .upstreamSymbols xs
  | unknownKind => exact .performingCommand none
  | identify => exact .performingCommand (some .identify)
  | readStatus => exact .performingCommand (some .readStatus)
  | clearCauses => exact .performingCommand (some .clearCauses)
  | setParam => exact .performingCommand (some .setParam)
  | getParam => exact .performingCommand (some .getParam)
  | loadEnvelope => exact .performingCommand (some .loadEnvelope)
  | commitEnvelope => exact .performingCommand (some .commitEnvelope)
  | readEnvelope => exact .performingCommand (some .readEnvelope)
  | loadRoute => exact .performingCommand (some .loadRoute)
  | trimRoute => exact .performingCommand (some .trimRoute)
  | readRoute => exact .performingCommand (some .readRoute)
  | start => exact .performingCommand (some .start)
  | pause => exact .performingCommand (some .pause)
  | resume => exact .performingCommand (some .resume)
  | stop => exact .performingCommand (some .stop)
  | clearFault => exact .performingCommand (some .clearFault)
  | fixChainage => exact .performingCommand (some .fixChainage)
  | readIntrusions => exact .performingCommand (some .readIntrusions)
  | headPass => exact .performingCommand (some .headPass)
  | headPassDone => exact .headPassDone
  | reset => exact .performingCommand (some .reset)
  | resetTakesEffect => exact .ite (.next s.afterReset_outside) (.next rfl)
  | powerOnReset => exact .next rfl
  | arbiterChoose => exact .next s.choose_outside
  | frameTransmitted => exact .ite (.next s.afterReset_outside) (.next s.transmitted_outside)
  | recorderLinkUp => exact .ite (.next rfl) (.upstreamSymbols _)
  | recorderLinkDown xs => exact .ite (.upstreamSymbols xs) (.next rfl)
  | headSymbolLock => exact .ite (.next rfl) (.headSymbols _)
  | headSymbolLockLost xs => exact .ite (.headSymbols xs) (.next rfl)
  | inputLevelChange i v => exact .next rfl
  | filteredFallingEdge e => exact .next rfl

theorem State.acceptLevel_pending (s : State) (i : InputPin) (v : Level) : (s.acceptLevel i v).pending = s.pending := by
  rw [State.acceptLevel_frame]

/-- No command touches the queue of commands. -/
theorem State.touched_pending (s : State) (c : Instr) : (s.touched c).pending = s.pending := by
  cases c with
  | wheelDecode w a b =>
    change (s.acceptWheel w a b).pending = _
    rw [s.acceptWheel_frame]
  | tagStrobe | markPress | filteredFallingEdge e => exact s.acceptLevel_pending _ _
  | _ => rfl

/-! ### The obligations -/

/-- Settles O3, from the definition of a step. -/
theorem stepRunsFrontCommand : Obligations.StepRunsFrontCommand := by
  intro c rest s waiting
  rw [step, waiting]

/-- Settles O4: `exec_answersOutside`, and the queue of commands is part of the outside that no command touches. -/
theorem everyCommandAnswers : Obligations.EveryCommandAnswers := by
  intro c s
  obtain ⟨t, answered, outside⟩ := exec_answersOutside c s
  exact ⟨t, answered, (State.outside_eq_iff.1 outside).2.2.trans (s.touched_pending c)⟩

end Sys2Proof.Machine
end

section
/-! SUPPORT. One microsecond (§0.3): a step with no command waiting is the stages of a tick, each of which is a command
at its occasion, and what the samples of the six inputs complete (R87, R88, R89, R117). -/

namespace Sys2Proof.Machine

/-! ### Commands inside a tick -/

section
variable (s : State)

/-- Inside a tick a command is that command, since every command answers a next state. -/
theorem State.exec_eq_after (c : Instr) : exec c s = .next (s.after c) := by
  obtain ⟨t, answered, -⟩ := exec_answersOutside c s
  rw [State.after, answered]

theorem State.after_outside (c : Instr) : (s.after c).outside = (s.touched c).outside := by
  obtain ⟨t, answered, outside⟩ := exec_answersOutside c s
  rw [State.after, answered]
  exact outside

theorem State.afterIf_of_not {b : Bool} (h : ¬ b = true) (c : Instr) : s.afterIf b c = s := if_neg h

/-- At its occasion a command inside a tick is that command, and without one it is nothing. -/
theorem State.afterIf_decide {p : Prop} [Decidable p] (c : Instr) :
    (p → exec c s = .next (s.afterIf p c)) ∧ (¬ p → s.afterIf p c = s) := by
  refine ⟨fun h => ?_, fun h => s.afterIf_of_not (mt of_decide_eq_true h) c⟩
  rw [State.afterIf, if_pos (decide_eq_true h), State.exec_eq_after]

/-- A command that leaves the outside alone leaves it so at its occasion and without one. -/
theorem State.afterIf_outside (b : Bool) {c : Instr} (h : s.touched c = s) : (s.afterIf b c).outside = s.outside := by
  unfold State.afterIf
  split
  · rw [State.after_outside, h]
  · rfl

end

/-! ### Stages without inputs -/

section
variable (s : State)

/-- The time base and the count of microseconds after one more, an odometer update due or not (§0.3, R92). -/
def State.clockMoved : State :=
  s.withClock { timeBase := s.clock.timeBase + 1
                sinceUpdate := if 1000 ≤ s.clock.sinceUpdate + 1 then 0 else s.clock.sinceUpdate + 1 }

theorem State.tickClock_eq : s.tickClock = s.clockMoved.afterIf (1000 ≤ s.clock.sinceUpdate + 1) .odometerUpdate := by
  by_cases due : 1000 ≤ s.clock.sinceUpdate + 1 <;> simp [State.tickClock, State.clockMoved, Config.updatePeriod, due]

theorem State.tickClock_outside : s.tickClock.outside = s.clockMoved.outside := by
  rw [State.tickClock_eq]
  exact State.afterIf_outside _ _ rfl

theorem State.tickStall_outside : s.tickStall.outside = s.outside := s.afterIf_outside _ rfl

variable {s}

theorem State.tickHeadPass_of_headPass {tag : Byte} {bytes : List Byte} {cycles : Nat}
    (h : s.link.agent = .headPass tag bytes cycles) :
    s.tickHeadPass = (s.withAgent (.headPass tag bytes (cycles + 25))).afterIf
      (2170 * bytes.length ≤ cycles + 25) .headPassDone := by
  have bits : passCycles bytes.length = 2170 * bytes.length := by
    simp only [passCycles, Config.bitsPerByte, Config.cyclesPerBit]
    omega
  simp only [State.tickHeadPass, h, bits, Config.cyclesPerMicrosecond]

theorem State.tickHeadPass_of_not (h : ∀ tag bytes cycles, s.link.agent ≠ .headPass tag bytes cycles) :
    s.tickHeadPass = s := by
  unfold State.tickHeadPass
  split
  · next sending => exact absurd sending (h _ _ _)
  · rfl

theorem State.tickTransmit_of_some {x : Transmission} (h : s.link.tx = some x) :
    s.tickTransmit = (s.withLink { s.link with tx := some { x with sent := x.sent + 20 } }).afterIf
      (x.frame.length + 1 ≤ x.sent + 20) .frameTransmitted := by
  by_cases last : x.frame.length + 1 ≤ x.sent + 20 <;>
    simp [State.tickTransmit, h, Transmission.symbols, Config.symbolsPerMicrosecond, State.afterIf, last]

theorem State.tickTransmit_of_none (h : s.link.tx = none) : s.tickTransmit = s := by
  simp only [State.tickTransmit, h]

/-- The Agent takes the oldest request when it is free and a response place is (R167). -/
theorem State.takes_any_iff {r : Request} :
    s.takes (fun _ => true) = some r ↔
      s.link.requests.head? = some r ∧ s.link.agent = .free ∧ s.link.responses.length < 4 := by
  have ready : s.link.ready = true ↔ s.link.agent = .free ∧ s.link.responses.length < 4 := by
    rw [RecorderLink.ready, Bool.and_eq_true_iff, decide_eq_true_iff, decide_eq_true_iff]
    exact Iff.rfl
  unfold State.takes
  split
  · next q rest waiting => simp [waiting, ready, and_comm]
  · next empty => simp [empty]

theorem State.tickAgent_of_takes {r : Request} (h : s.takes (fun _ => true) = some r) :
    s.tickAgent = s.after (performingCommand (kindOf r.kind)) := by
  simp only [State.tickAgent, h]

theorem State.tickAgent_of_not (h : s.takes (fun _ => true) = none) : s.tickAgent = s := by
  simp only [State.tickAgent, h]

variable (s)

theorem State.tickHeadPass_outside : s.tickHeadPass.outside = s.outside := by
  unfold State.tickHeadPass
  split
  · exact State.afterIf_outside _ _ rfl
  · rfl

theorem State.tickTransmit_outside : s.tickTransmit.outside = s.outside := by
  unfold State.tickTransmit
  split
  · dsimp only
    split
    · exact State.after_outside _ _
    · rfl
  · rfl

theorem State.touched_arbiterChoose : s.touched .arbiterChoose = s := rfl

/-- The commands of the requests leave the outside alone. -/
theorem State.touched_performingCommand (k : Option RequestKind) : s.touched (performingCommand k) = s := by
  rcases k with _ | k
  · rfl
  · cases k <;> rfl

theorem State.tickAgent_outside : s.tickAgent.outside = s.outside := by
  unfold State.tickAgent
  split
  · rw [State.after_outside, State.touched_performingCommand]
  · rfl

end

/-! ### What the inputs' commands keep besides -/

/-- A wheel's interval count. -/
def Odometer.count (o : Odometer) : Wheel → Int
  | .left => o.left
  | .right => o.right

theorem Odometer.addCount_count (o : Odometer) (w v : Wheel) (n : Int) :
    (o.addCount w n).count v = o.count v + if v = w then n else 0 := by
  cases w <;> cases v <;> simp [Odometer.addCount, Odometer.count]

/-- The filter times hang on two values in effect (R87, R117). -/
theorem State.filterTime_congr {s t : State} (wheel : t.eff Param.wheelFilter = s.eff Param.wheelFilter)
    (key : t.eff Param.inputConstant = s.eff Param.inputConstant) (i : InputPin) : t.filterTime i = s.filterTime i := by
  unfold State.filterTime State.effNat
  rw [wheel, key]

theorem State.filterTime_pos (s : State) (i : InputPin) : 1 ≤ s.filterTime i := by
  have keyed : 1 ≤ if s.effNat Param.inputConstant = 0 then 1 else 1000 * 2 ^ (s.effNat Param.inputConstant - 1) := by
    split
    · exact le_rfl
    · exact Nat.mul_pos (by decide) (Nat.two_pow_pos _)
  cases i with
  | tagStb | markKey => exact keyed
  | _ => exact Nat.le_add_left _ _

/-- From `s` to `t` the outside, the filters and their times and both interval counts are kept, and no cause is lost. -/
structure State.KeepsInputs (s t : State) : Prop where
  outside : t.outside = s.outside
  filters : t.filters = s.filters
  time : ∀ i : InputPin, t.filterTime i = s.filterTime i
  counts : ∀ w : Wheel, t.odo.count w = s.odo.count w
  flags : ∀ c : Cause, flagSet s.causes c = true → flagSet t.causes c = true

namespace State.KeepsInputs

variable {s t u : State}

theorem refl (s : State) : s.KeepsInputs s := ⟨rfl, rfl, fun _ => rfl, fun _ => rfl, fun _ => id⟩

theorem trans (h : s.KeepsInputs t) (k : t.KeepsInputs u) : s.KeepsInputs u :=
  ⟨k.outside.trans h.outside, k.filters.trans h.filters, fun i => (k.time i).trans (h.time i),
    fun w => (k.counts w).trans (h.counts w), fun c => k.flags c ∘ h.flags c⟩

theorem of_reports (h : s.Reports t) : s.KeepsInputs t :=
  ⟨h.outside, h.filters, filterTime_congr (by rw [eff, h.params, eff]) (by rw [eff, h.params, eff]),
    fun _ => by rw [h.odo], h.flags⟩

/-- Fault entry takes LIVE parameters alone, and the filter times are RUN parameters. -/
theorem of_faulted {c : Cause} (h : s.Faulted c t) : s.KeepsInputs t := by
  have kept (p : ParamId) (hp : (paramRow p).cls ≠ .live) : t.eff p = s.eff p :=
    (h.params.effect p).resolve_right fun taken => hp taken.1
  refine ⟨h.outside, by rw [h.frame], filterTime_congr (kept _ (by decide)) (kept _ (by decide)), fun w => ?_, h.flags⟩
  rw [h.odo]
  cases w <;> rfl

theorem settle (w : Work) : w.st.KeepsInputs w.settle.st := by
  rcases w.settle_cases with ⟨same, -⟩ | ⟨_, -, -, faulted⟩
  · rw [same]
    exact .refl _
  · exact of_faulted faulted

theorem placeFix (w : Work) (f : Fix) : w.st.KeepsInputs (w.placeFix f).st := by
  have pending : w.st.KeepsInputs (w.modify fun s => s.withOdo { s.odo with pendingFix := some f }).st :=
    ⟨rfl, rfl, fun i => by cases i <;> rfl, fun v => by cases v <;> rfl, fun _ => id⟩
  unfold Work.placeFix
  dsimp only
  split
  · exact pending.trans (of_reports (Work.queue_reports _ _))
  · exact pending

theorem takeStrobe (w : Work) : w.st.KeepsInputs w.takeStrobe.st := by
  unfold Work.takeStrobe
  dsimp only
  split
  · exact of_reports ((w.queue_reports _).trans (Work.raise_reports _ _))
  · split
    · exact of_reports (w.queue_reports _)
    · exact placeFix w _

theorem pressMark (s : State) : s.KeepsInputs s.pressMark := by
  have pressed (x : RingAssembler) : s.KeepsInputs (s.withRing x) :=
    ⟨rfl, rfl, fun i => by cases i <;> rfl, fun _ => rfl, fun _ => id⟩
  unfold State.pressMark
  split
  · split
    · exact pressed _
    · exact .refl s
  · exact .refl s

end State.KeepsInputs

/-! ### One input taken -/

/-- An input whose run is complete, taken at the level of its pin; any other input is left (R87, R117). -/
def State.takeInput (s : State) (i : InputPin) : State :=
  if s.completes i then s.withFilters (s.filters.put i (.take (s.pins.get i))) else s

/-- An input's run is complete only at a level other than the accepted one. -/
def State.Ready (s : State) (i : InputPin) : Prop := s.completes i = true → s.acceptedLevel i ≠ s.pins.get i

theorem Pins.put_get (p : Pins) (i : InputPin) : p.put i (p.get i) = p := by cases i <;> rfl

section
variable {s : State} {i : InputPin}

theorem State.takeInput_of_not (h : ¬ s.completes i = true) : s.takeInput i = s := if_neg h

theorem State.takeInput_causes (s : State) (i : InputPin) : (s.takeInput i).causes = s.causes := by
  unfold State.takeInput
  split <;> rfl

/-- To accept the level the decoder sees is to take the input. -/
theorem State.acceptLevel_decodedLevel (h : s.Ready i) : s.acceptLevel i (s.decodedLevel i) = s.takeInput i := by
  unfold State.decodedLevel State.takeInput
  split
  · next done => rw [s.acceptLevel_of_ne (h done), Pins.put_get]; rfl
  · exact s.acceptLevel_of_eq rfl

end

/-- From `s` to `t` the inputs listed have been taken, and of the others nothing is changed. -/
structure State.Took (s : State) (l : List InputPin) (t : State) : Prop where
  outside : t.outside = s.outside
  time : ∀ i : InputPin, t.filterTime i = s.filterTime i
  filters : ∀ i : InputPin, t.filters.get i =
    if i ∈ l ∧ s.completes i = true then .take (s.pins.get i) else s.filters.get i
  flags : ∀ c : Cause, flagSet s.causes c = true → flagSet t.causes c = true

namespace State.Took

variable {s t u : State} {l : List InputPin} {i : InputPin}

theorem refl (s : State) : s.Took [] s := ⟨rfl, fun _ => rfl, fun i => by simp, fun _ => id⟩

theorem pins (h : s.Took l t) : t.pins = s.pins := (State.outside_eq_iff.1 h.outside).2.1

theorem keeps (h : s.Took l t) (k : t.KeepsInputs u) : s.Took l u :=
  ⟨k.outside.trans h.outside, fun i => (k.time i).trans (h.time i), fun i => by rw [k.filters, h.filters],
    fun c => k.flags c ∘ h.flags c⟩

/-! An input that is not listed is as it was. -/

theorem filter_of_not_mem (h : s.Took l t) (hi : i ∉ l) : t.filters.get i = s.filters.get i := by
  rw [h.filters, if_neg fun k => hi k.1]

theorem completes_of_not_mem (h : s.Took l t) (hi : i ∉ l) : t.completes i = s.completes i := by
  rw [State.completes, State.completes, h.time, h.filter_of_not_mem hi]

theorem acceptedLevel_of_not_mem (h : s.Took l t) (hi : i ∉ l) : t.acceptedLevel i = s.acceptedLevel i := by
  rw [State.acceptedLevel, State.acceptedLevel, h.filter_of_not_mem hi, h.pins]

theorem decodedLevel_of_not_mem (h : s.Took l t) (hi : i ∉ l) : t.decodedLevel i = s.decodedLevel i := by
  rw [State.decodedLevel, State.decodedLevel, h.completes_of_not_mem hi, h.acceptedLevel_of_not_mem hi, h.pins]

theorem ready_of_not_mem (h : s.Took l t) (hi : i ∉ l) (hs : s.Ready i) : t.Ready i := by
  unfold State.Ready
  rw [h.completes_of_not_mem hi, h.acceptedLevel_of_not_mem hi, h.pins]
  exact hs

/-- An input that is listed is at the level its decoder saw. -/
theorem acceptedLevel_of_mem (h : s.Took l t) (hi : i ∈ l) : t.acceptedLevel i = s.decodedLevel i := by
  unfold State.acceptedLevel State.decodedLevel
  rw [h.filters, h.pins]
  by_cases done : s.completes i = true
  · rw [if_pos ⟨hi, done⟩, if_pos done]
    rfl
  · rw [if_neg fun k => done k.2, if_neg done]
    rfl

/-- One more input taken. -/
theorem takeInput (h : s.Took l t) (hi : i ∉ l) : s.Took (i :: l) (t.takeInput i) := by
  have same := h.completes_of_not_mem hi
  by_cases done : s.completes i = true
  · rw [State.takeInput, same, if_pos done]
    refine ⟨h.outside, h.time, fun j => ?_, h.flags⟩
    rw [State.withFilters_filters, Filters.get_put, h.filters, h.pins]
    by_cases hj : j = i
    · simp [hj, done]
    · simp [hj]
  · rw [State.takeInput_of_not (same ▸ done)]
    refine ⟨h.outside, h.time, fun j => ?_, h.flags⟩
    rw [h.filters]
    by_cases hj : j = i
    · simp [hj, done]
    · simp [hj]

end State.Took

/-! ### The wheels -/

section
variable (s : State) (w : Wheel)

/-- The move a wheel's decoder makes at a sample. -/
def State.sampledMove : Move := s.wheelMove w (s.decodedLevel (wheelPinA w)) (s.decodedLevel (wheelPinB w))

/-- A wheel's inputs taken and its move counted. -/
def State.wheelCounted : State :=
  ((s.takeInput (wheelPinA w)).takeInput (wheelPinB w)).withOdo (s.odo.addCount w (s.sampledMove w).count)

variable {s w}

theorem State.acceptWheel_decodedLevel (hA : s.Ready (wheelPinA w)) (hB : s.Ready (wheelPinB w)) :
    s.acceptWheel w (s.decodedLevel (wheelPinA w)) (s.decodedLevel (wheelPinB w)) =
      (s.takeInput (wheelPinA w)).takeInput (wheelPinB w) := by
  have apart : wheelPinB w ∉ [wheelPinA w] := by simpa using (wheelPinA_ne_wheelPinB w).symm
  have tookA : s.Took [wheelPinA w] (s.takeInput (wheelPinA w)) := (Took.refl s).takeInput (by simp)
  rw [State.acceptWheel, State.acceptLevel_decodedLevel hA, ← tookA.decodedLevel_of_not_mem apart,
    State.acceptLevel_decodedLevel (tookA.ready_of_not_mem apart hB)]

/-- WHEEL_DECODE inside a tick. -/
theorem State.after_wheelDecode (hA : s.Ready (wheelPinA w)) (hB : s.Ready (wheelPinB w)) :
    s.after (.wheelDecode w (s.decodedLevel (wheelPinA w)) (s.decodedLevel (wheelPinB w))) =
      ((Work.of (s.wheelCounted w)).raiseIf (s.sampledMove w = .double) .odoGlitch).settle.st := by
  have odo := congrArg State.odo
    (s.acceptWheel_frame w (s.decodedLevel (wheelPinA w)) (s.decodedLevel (wheelPinB w)))
  rw [State.acceptWheel_decodedLevel hA hB] at odo
  have decoded := exec_eq_after s (.wheelDecode w (s.decodedLevel (wheelPinA w)) (s.decodedLevel (wheelPinB w)))
  change execWheelDecode _ _ _ s = _ at decoded
  rw [execWheelDecode, ← State.acceptWheel, State.acceptWheel_decodedLevel hA hB, Work.done_eq] at decoded
  rw [← Host.Outcome.next.inj decoded, State.wheelCounted, ← odo]
  rfl

/-- A decoder with no input to take makes no move. -/
theorem State.sampledMove_of_not (hA : ¬ s.completes (wheelPinA w) = true) (hB : ¬ s.completes (wheelPinB w) = true) :
    s.sampledMove w = .none := by
  rw [State.sampledMove, State.decodedLevel, State.decodedLevel, if_neg hA, if_neg hB]
  exact moveOf_none _

theorem State.tickWheel_of_not (hA : ¬ s.completes (wheelPinA w) = true) (hB : ¬ s.completes (wheelPinB w) = true) :
    s.tickWheel w = s :=
  s.afterIf_of_not (by simp [hA, hB]) _

theorem State.tickWheel_of_completes (h : s.completes (wheelPinA w) = true ∨ s.completes (wheelPinB w) = true)
    (hA : s.Ready (wheelPinA w)) (hB : s.Ready (wheelPinB w)) :
    s.tickWheel w = ((Work.of (s.wheelCounted w)).raiseIf (s.sampledMove w = .double) .odoGlitch).settle.st := by
  rw [← State.after_wheelDecode hA hB]
  exact if_pos (by simpa using h)

/-- Whether or not the sample completes a run, the wheel's inputs are taken and its move counted. -/
theorem State.tickWheel_keepsInputs (hA : s.Ready (wheelPinA w)) (hB : s.Ready (wheelPinB w)) :
    (s.wheelCounted w).KeepsInputs (s.tickWheel w) := by
  by_cases h : s.completes (wheelPinA w) = true ∨ s.completes (wheelPinB w) = true
  · rw [State.tickWheel_of_completes h hA hB]
    exact (KeepsInputs.of_reports (Work.raiseIf_reports (Work.of (s.wheelCounted w)) _ _)).trans (.settle _)
  · obtain ⟨notA, notB⟩ := not_or.1 h
    have nothing : s.wheelCounted w = s := by
      rw [State.wheelCounted, State.takeInput_of_not notA, State.takeInput_of_not notB,
        State.sampledMove_of_not notA notB, Move.count, Odometer.addCount_zero]
      rfl
    rw [State.tickWheel_of_not notA notB, nothing]
    exact .refl s

theorem State.tickWheel_flag (hA : s.Ready (wheelPinA w)) (hB : s.Ready (wheelPinB w)) (h : s.sampledMove w = .double) :
    flagSet (s.tickWheel w).causes .odoGlitch = true := by
  by_cases done : s.completes (wheelPinA w) = true ∨ s.completes (wheelPinB w) = true
  · rw [State.tickWheel_of_completes done hA hB, h]
    exact Work.settle_flags _ (Work.raise_flag _ _)
  · obtain ⟨notA, notB⟩ := not_or.1 done
    rw [State.sampledMove_of_not notA notB] at h
    cases h

theorem State.tickWheel_flags (hA : s.Ready (wheelPinA w)) (hB : s.Ready (wheelPinB w)) (c : Cause)
    (h : flagSet s.causes c = true) : flagSet (s.tickWheel w).causes c = true := by
  refine (State.tickWheel_keepsInputs hA hB).flags c ?_
  rw [State.wheelCounted, State.withOdo_causes, State.takeInput_causes, State.takeInput_causes]
  exact h

theorem State.tickWheel_count (hA : s.Ready (wheelPinA w)) (hB : s.Ready (wheelPinB w)) (v : Wheel) :
    (s.tickWheel w).odo.count v = s.odo.count v + if v = w then (s.sampledMove w).count else 0 := by
  rw [(State.tickWheel_keepsInputs hA hB).counts]
  exact Odometer.addCount_count _ _ _ _

end

namespace State.Took

variable {s t : State} {l : List InputPin}

theorem tickWheel (h : s.Took l t) {w : Wheel} (ready : ∀ i, s.Ready i) (hA : wheelPinA w ∉ l) (hB : wheelPinB w ∉ l) :
    s.Took (wheelPinB w :: wheelPinA w :: l) (t.tickWheel w) := by
  have apart : wheelPinB w ∉ wheelPinA w :: l := by simp [hB, (wheelPinA_ne_wheelPinB w).symm]
  obtain ⟨outside, time, filters, flags⟩ := (h.takeInput hA).takeInput apart
  have counted : s.Took (wheelPinB w :: wheelPinA w :: l) (t.wheelCounted w) := ⟨outside, time, filters, flags⟩
  exact counted.keeps (State.tickWheel_keepsInputs (h.ready_of_not_mem hA (ready _)) (h.ready_of_not_mem hB (ready _)))

theorem sampledMove (h : s.Took l t) {w : Wheel} (hA : wheelPinA w ∉ l) (hB : wheelPinB w ∉ l) :
    t.sampledMove w = s.sampledMove w := by
  rw [State.sampledMove, State.sampledMove, State.wheelMove, State.wheelMove, h.acceptedLevel_of_not_mem hA,
    h.acceptedLevel_of_not_mem hB, h.decodedLevel_of_not_mem hA, h.decodedLevel_of_not_mem hB]

end State.Took

/-! ### The strobe and the key -/

/-- The command of a rising edge (R117). -/
def edgeRise : EdgeInput → Instr
  | .tagStb => .tagStrobe
  | .markKey => .markPress

/-- The command of an edge to a level (R117). -/
def edgeCommand (e : EdgeInput) : Level → Instr
  | .high => edgeRise e
  | .low => .filteredFallingEdge e

section
variable {s : State} {e : EdgeInput}

theorem State.tickEdge_eq (s : State) (e : EdgeInput) :
    s.tickEdge e (edgeRise e) = s.afterIf (s.completes (edgePin e)) (edgeCommand e (s.pins.get (edgePin e))) := by
  unfold State.tickEdge
  cases s.pins.get (edgePin e) <;> rfl

theorem State.tickEdge_of_not (h : ¬ s.completes (edgePin e) = true) : s.tickEdge e (edgeRise e) = s :=
  s.afterIf_of_not h _

/-- Besides accepting the level, an edge keeps the inputs. -/
theorem State.acceptLevel_keepsInputs (s : State) (e : EdgeInput) (v : Level) :
    (s.acceptLevel (edgePin e) v).KeepsInputs (s.after (edgeCommand e v)) := by
  cases v with
  | low => exact .refl _
  | high =>
    cases e with
    | markKey => exact .pressMark _
    | tagStb =>
      have whole : s.after .tagStrobe =
          (if s.ctrl.run = .running ∨ s.ctrl.run = .paused then (Work.of (s.acceptLevel .tagStb .high)).takeStrobe
           else Work.of (s.acceptLevel .tagStb .high)).settle.st := by
        refine Host.Outcome.next.inj ((s.exec_eq_after .tagStrobe).symm.trans ?_)
        change execTagStrobe s = _
        unfold execTagStrobe
        dsimp only
        split <;> rfl
      change State.KeepsInputs _ (s.after .tagStrobe)
      rw [whole]
      refine .trans ?_ (.settle _)
      split
      · exact .takeStrobe (Work.of (s.acceptLevel .tagStb .high))
      · exact .refl _

theorem State.tickEdge_keepsInputs (h : s.Ready (edgePin e)) :
    (s.takeInput (edgePin e)).KeepsInputs (s.tickEdge e (edgeRise e)) := by
  rw [State.tickEdge_eq]
  by_cases done : s.completes (edgePin e) = true
  · have level : s.decodedLevel (edgePin e) = s.pins.get (edgePin e) := if_pos done
    rw [← State.acceptLevel_decodedLevel h, level, State.afterIf, if_pos done]
    exact s.acceptLevel_keepsInputs e _
  · rw [State.takeInput_of_not done, State.afterIf_of_not s done]
    exact .refl s

theorem State.tickEdge_count (h : s.Ready (edgePin e)) (w : Wheel) :
    (s.tickEdge e (edgeRise e)).odo.count w = s.odo.count w := by
  rw [(State.tickEdge_keepsInputs h).counts, State.takeInput]
  split <;> rfl

theorem State.tickEdge_flags (h : s.Ready (edgePin e)) (c : Cause) (hc : flagSet s.causes c = true) :
    flagSet (s.tickEdge e (edgeRise e)).causes c = true :=
  (State.tickEdge_keepsInputs h).flags c (by rwa [State.takeInput_causes])

theorem State.Took.tickEdge {t : State} {l : List InputPin} (h : s.Took l t) (ready : ∀ i, s.Ready i)
    (hi : edgePin e ∉ l) : s.Took (edgePin e :: l) (t.tickEdge e (edgeRise e)) :=
  (h.takeInput hi).keeps (State.tickEdge_keepsInputs (h.ready_of_not_mem hi (ready _)))

end

/-! ### The samples -/

theorem Filters.ext_get {f g : Filters} (h : ∀ i : InputPin, f.get i = g.get i) : f = g := by
  obtain ⟨_, _, _, _, _, _⟩ := f
  obtain ⟨_, _, _, _, _, _⟩ := g
  exact Filters.mk.injEq .. ▸ ⟨h .whlA, h .whlB, h .whrA, h .whrB, h .tagStb, h .markKey⟩

section
variable (s : State)

/-- Every input sampled. -/
def State.sampled : State :=
  (((((s.sampleInput .whlA).sampleInput .whlB).sampleInput .whrA).sampleInput .whrB).sampleInput .tagStb).sampleInput
    .markKey

/-- The run count of an input after a sample (R87, R88, R117). -/
def State.sampledRun (i : InputPin) : Nat :=
  if (s.filters.get i).accepted = none ∨ (s.filters.get i).accepted = some (s.pins.get i) then 0
  else (s.filters.get i).runCount + 1

/-- A sample keeps the accepted level, the first one giving it, and moves the run count (R87, R88, R117). -/
theorem State.sampled_filter (i : InputPin) :
    s.sampled.filters.get i = { accepted := some (s.acceptedLevel i), runCount := s.sampledRun i } := by
  have one : s.sampled.filters.get i = (s.filters.get i).sample (s.pins.get i) := by cases i <;> rfl
  rw [one, Filter.sample, State.acceptedLevel, State.sampledRun]
  split
  · next first => simp [first]
  · next a held =>
    by_cases equal : s.pins.get i = a
    · simp [held, equal]
    · simp [held, equal, Ne.symm equal]

theorem State.sampled_acceptedLevel (i : InputPin) : s.sampled.acceptedLevel i = s.acceptedLevel i := by
  rw [State.acceptedLevel, State.sampled_filter]
  rfl

theorem State.sampled_completes_iff (i : InputPin) :
    s.sampled.completes i = true ↔ s.filterTime i ≤ s.sampledRun i := by
  rw [State.completes, State.sampled_filter, decide_eq_true_iff]
  exact Iff.rfl

/-- A run is never complete at its accepted level, where the run count is 0. -/
theorem State.sampled_ready (i : InputPin) : s.sampled.Ready i := by
  intro done
  have counted : s.sampledRun i ≠ 0 := by
    have := (s.sampled_completes_iff i).1 done
    have := s.filterTime_pos i
    omega
  rw [State.sampled_acceptedLevel]
  intro same
  refine counted (if_pos ?_)
  change s.acceptedLevel i = s.pins.get i at same
  cases held : (s.filters.get i).accepted with
  | none => exact .inl rfl
  | some a =>
    rw [State.acceptedLevel, held] at same
    exact .inr (congrArg some same)

/-- A sampled state once the wheels' decoders have run. -/
def State.wheelsTicked : State := (s.sampled.tickWheel .left).tickWheel .right

/-- The same once the strobe has been seen to as well. -/
def State.strobeTicked : State := s.wheelsTicked.tickEdge .tagStb (edgeRise .tagStb)

theorem State.tickInputs_eq : s.tickInputs = s.strobeTicked.tickEdge .markKey (edgeRise .markKey) := rfl

/-! What each stage has taken, and that it leaves the inputs of the later ones as the samples left them. -/

theorem State.took_left : s.sampled.Took [.whlB, .whlA] (s.sampled.tickWheel .left) :=
  (Took.refl s.sampled).tickWheel (w := .left) s.sampled_ready (by simp) (by simp)

theorem State.took_wheels : s.sampled.Took [.whrB, .whrA, .whlB, .whlA] s.wheelsTicked :=
  s.took_left.tickWheel (w := .right) s.sampled_ready (by decide) (by decide)

theorem State.took_strobe : s.sampled.Took [.tagStb, .whrB, .whrA, .whlB, .whlA] s.strobeTicked :=
  s.took_wheels.tickEdge (e := .tagStb) s.sampled_ready (by decide)

theorem State.took_inputs : s.sampled.Took [.markKey, .tagStb, .whrB, .whrA, .whlB, .whlA] s.tickInputs :=
  s.took_strobe.tickEdge (e := .markKey) s.sampled_ready (by decide)

theorem mem_all_inputs (i : InputPin) : i ∈ [InputPin.markKey, .tagStb, .whrB, .whrA, .whlB, .whlA] := by
  cases i <;> decide

theorem State.tickWheel_left_ready (i : InputPin) (h : i ∉ [InputPin.whlB, .whlA]) :
    (s.sampled.tickWheel .left).Ready i :=
  s.took_left.ready_of_not_mem h (s.sampled_ready i)

theorem State.wheelsTicked_ready : s.wheelsTicked.Ready .tagStb :=
  s.took_wheels.ready_of_not_mem (by decide) (s.sampled_ready _)

theorem State.strobeTicked_ready : s.strobeTicked.Ready .markKey :=
  s.took_strobe.ready_of_not_mem (by decide) (s.sampled_ready _)

theorem State.tickWheel_left_sampledMove :
    (s.sampled.tickWheel .left).sampledMove .right = s.sampled.sampledMove .right :=
  s.took_left.sampledMove (by decide) (by decide)

/-! What the samples have made of the inputs in the end. -/

theorem State.tickInputs_outside : s.tickInputs.outside = s.outside := s.took_inputs.outside

/-- Every input whose run reaches its filter time is taken (R87, R117). -/
theorem State.tickInputs_filter (i : InputPin) :
    s.tickInputs.filters.get i =
      if s.filterTime i ≤ s.sampledRun i then { accepted := some (s.pins.get i), runCount := 0 }
      else { accepted := some (s.acceptedLevel i), runCount := s.sampledRun i } := by
  rw [s.took_inputs.filters, State.sampled_filter]
  refine if_congr ?_ rfl rfl
  rw [State.sampled_completes_iff, and_iff_right (mem_all_inputs i)]

theorem State.tickInputs_acceptedLevel (i : InputPin) : s.tickInputs.acceptedLevel i = s.sampled.decodedLevel i :=
  s.took_inputs.acceptedLevel_of_mem (mem_all_inputs i)

/-- The move of a wheel's decoder is from the position before the samples to the position after them (R89). -/
theorem State.sampled_sampledMove (w : Wheel) :
    s.sampled.sampledMove w =
      moveOf (position (s.acceptedLevel (wheelPinA w)) (s.acceptedLevel (wheelPinB w)))
        (position (s.tickInputs.acceptedLevel (wheelPinA w)) (s.tickInputs.acceptedLevel (wheelPinB w))) := by
  simp only [State.sampledMove, State.wheelMove, State.sampled_acceptedLevel, State.tickInputs_acceptedLevel]

theorem State.wheelsTicked_count (w : Wheel) :
    s.wheelsTicked.odo.count w = s.odo.count w + (s.sampled.sampledMove w).count := by
  have right := State.tickWheel_count (w := .right) (s.tickWheel_left_ready .whrA (by decide))
    (s.tickWheel_left_ready .whrB (by decide)) w
  have left := State.tickWheel_count (w := .left) (s.sampled_ready .whlA) (s.sampled_ready .whlB) w
  have unsampled : s.sampled.odo = s.odo := rfl
  rw [State.wheelsTicked, right, left, State.tickWheel_left_sampledMove, unsampled]
  cases w <;> simp

/-- Each wheel's interval count follows its own decoder alone (R89). -/
theorem State.tickInputs_count (w : Wheel) :
    s.tickInputs.odo.count w = s.odo.count w + (s.sampled.sampledMove w).count := by
  rw [State.tickInputs_eq, State.tickEdge_count (e := .markKey) s.strobeTicked_ready, State.strobeTicked,
    State.tickEdge_count (e := .tagStb) s.wheelsTicked_ready, State.wheelsTicked_count]

/-- A move of two positions raises ODO_GLITCH, whatever else the samples complete (R89). -/
theorem State.tickInputs_flag {w : Wheel} (h : s.sampled.sampledMove w = .double) :
    flagSet s.tickInputs.causes .odoGlitch = true := by
  have readyA := s.tickWheel_left_ready .whrA (by decide)
  have readyB := s.tickWheel_left_ready .whrB (by decide)
  have raised : flagSet s.wheelsTicked.causes .odoGlitch = true := by
    cases w with
    | left =>
      exact State.tickWheel_flags (w := .right) readyA readyB _
        (State.tickWheel_flag (w := .left) (s.sampled_ready .whlA) (s.sampled_ready .whlB) h)
    | right => exact State.tickWheel_flag (w := .right) readyA readyB (s.tickWheel_left_sampledMove.trans h)
  exact State.tickEdge_flags (e := .markKey) s.strobeTicked_ready _
    (State.tickEdge_flags (e := .tagStb) s.wheelsTicked_ready _ raised)

variable {s}

/-- Samples that complete no run at a wheel leave the decoders at rest. -/
theorem State.wheelsTicked_of_not (hl : ∀ w, ¬ s.sampled.completes (wheelPinA w) = true)
    (hr : ∀ w, ¬ s.sampled.completes (wheelPinB w) = true) : s.wheelsTicked = s.sampled := by
  rw [State.wheelsTicked, State.tickWheel_of_not (hl .left) (hr .left), State.tickWheel_of_not (hl .right) (hr .right)]

theorem State.tickInputs_of_none (h : ∀ i, ¬ s.sampled.completes i = true) : s.tickInputs = s.sampled := by
  rw [State.tickInputs_eq, State.strobeTicked, State.wheelsTicked_of_not (fun _ => h _) (fun _ => h _),
    State.tickEdge_of_not (e := .tagStb) (h _), State.tickEdge_of_not (e := .markKey) (h _)]

/-- Where the strobe or the key alone completes a run, a tick's samples come to its command (R117). -/
theorem State.tickInputs_of_edge {e : EdgeInput} (done : s.sampled.completes (edgePin e) = true)
    (others : ∀ i, i ≠ edgePin e → ¬ s.sampled.completes i = true) :
    s.tickInputs = s.sampled.after (edgeCommand e (s.pins.get (edgePin e))) := by
  have wheels : s.wheelsTicked = s.sampled :=
    State.wheelsTicked_of_not (fun w => others _ (by cases w <;> cases e <;> decide))
      (fun w => others _ (by cases w <;> cases e <;> decide))
  have edge : s.sampled.tickEdge e (edgeRise e) = s.sampled.after (edgeCommand e (s.pins.get (edgePin e))) :=
    (s.sampled.tickEdge_eq e).trans (if_pos done)
  rw [← edge, State.tickInputs_eq]
  cases e with
  | tagStb =>
    have key : ¬ s.strobeTicked.completes .markKey = true := by
      rw [s.took_strobe.completes_of_not_mem (by decide)]
      exact others _ (by decide)
    rw [State.tickEdge_of_not (e := .markKey) key, State.strobeTicked, wheels]
  | markKey => rw [State.strobeTicked, wheels, State.tickEdge_of_not (e := .tagStb) (others _ (by decide))]

end

/-! ### The obligation -/

/-- A tick moves the time base by one and leaves the pins and the queue of commands (§0.3). -/
theorem State.tick_outside (s : State) : s.tick.outside = s.clockMoved.outside := by
  rw [State.tick, State.after_outside, State.touched_arbiterChoose, State.tickAgent_outside, State.tickTransmit_outside,
    State.tickHeadPass_outside, State.tickStall_outside, State.tickInputs_outside, State.tickClock_outside]

theorem moveOf_count :
    ∀ before after : Fin 4, (moveOf before after).count =
      if after = before + 1 then 1 else if before = after + 1 then -1 else 0 := by
  decide

/-- Settles O5: a tick's stages are commands at their occasions, since every command answers (`State.afterIf_decide`).
What the samples complete is `State.tickInputs_filter` for the filters, `State.tickInputs_count` and
`State.tickInputs_flag` for the wheels and `State.tickInputs_of_edge` for the strobe and the key. -/
theorem idleStepIsOneMicrosecond : Obligations.IdleStepIsOneMicrosecond := by
  refine ⟨fun s idle => ?_, fun s => ?_, fun s => ?_, fun s => ?_, fun s => ?_, fun s => ?_, fun s => ?_⟩
  · obtain ⟨clock, pins, pending⟩ := State.outside_eq_iff.1 s.tick_outside
    exact ⟨s.tick, by rw [step, idle], State.exec_eq_after _ _, congrArg Clock.timeBase clock, pins, pending.trans idle⟩
  · intro due u
    rw [State.tickClock_eq]
    exact State.afterIf_decide _ _
  · intro time run taken
    have timed : ∀ i, time i = s.filterTime i := by
      intro i
      cases i <;> rfl
    have reached : ∀ i, taken i ↔ s.sampled.completes i = true := by
      intro i
      rw [State.sampled_completes_iff, ← timed]
      exact Iff.rfl
    refine ⟨fun i => ?_, fun w => ?_, fun sampled frame filters => ?_⟩
    · rw [timed]
      exact s.tickInputs_filter i
    · intro count before after
      have move : s.sampled.sampledMove w = moveOf before after := s.sampled_sampledMove w
      refine ⟨?_, fun two => s.tickInputs_flag (by rw [move, two, moveOf_double])⟩
      have counted : ∀ o, count o = o.count w := by
        intro o
        cases w <;> rfl
      rw [← moveOf_count, ← move, counted, counted]
      exact s.tickInputs_count w
    · have same : sampled = s.sampled :=
        frame.trans (congrArg s.withFilters (Filters.ext_get fun i => (filters i).trans (s.sampled_filter i).symm))
      rw [same]
      refine ⟨fun none => State.tickInputs_of_none fun i => mt (reached i).2 (none i), fun e done others => ?_⟩
      rw [State.tickInputs_of_edge ((reached _).1 done) fun i hi => mt (reached i).2 (others i hi)]
      cases s.pins.get (edgePin e) <;> cases e <;> exact State.exec_eq_after _ _
  · exact s.afterIf_decide _
  · refine ⟨fun tag bytes cycles sending => ?_, State.tickHeadPass_of_not⟩
    intro u
    rw [State.tickHeadPass_of_headPass sending]
    exact (State.afterIf_decide _ _).imp_right fun idle short => idle (not_le.2 short)
  · refine ⟨fun x sending => ?_, State.tickTransmit_of_none⟩
    intro u
    rw [State.tickTransmit_of_some sending]
    exact (State.afterIf_decide _ _).imp_right fun idle short => idle (not_le.2 short)
  · refine ⟨fun r rest waiting free place => ?_, fun h => State.tickAgent_of_not ?_⟩
    · rw [State.tickAgent_of_takes (State.takes_any_iff.2 ⟨by rw [waiting]; rfl, free, place⟩)]
      exact State.exec_eq_after _ _
    · refine Option.eq_none_iff_forall_ne_some.2 fun r taken => ?_
      obtain ⟨oldest, free, place⟩ := State.takes_any_iff.1 taken
      rcases h with empty | busy | full
      · simp [empty] at oldest
      · exact busy free
      · omega

end Sys2Proof.Machine
end

section
/-! SUPPORT. What a step is made of, for the invariants of the run state, the sectors and the profiles: most operations
leave the outline of the state alone, and the few that do not are the moves. -/

namespace Sys2Proof.Machine

/-! ### The outline -/

/-- The Ring Assembler's state without the ring's context but for its profile slot (§1.5, R159). -/
inductive RingOutline where
  | inactive
  | waiting
  | opened (slot : Option (Fin 3))

/-- The outline of the Ring Assembler's state. -/
def Assembler.outline : Assembler → RingOutline
  | .inactive => .inactive
  | .waiting => .waiting
  | .opened r => .opened r.profileSlot

/-- A value in effect of the RUN class; 0 for the other classes. -/
def State.runValue (s : State) (p : ParamId) : Int := if (paramRow p).cls = .run then s.eff p else 0

/-- What the invariants of the run state, the sectors and the profiles read of a state. -/
structure Outline where
  ctrl : RunController
  ring : RingOutline
  timing : Bool
  tracker : SectorTracker
  fix : Option Fix
  values : ParamId → Int
  slots : Vector ProfileSlot 3
  order : List (Fin 3)
  sending : Option TxSource

/-- The outline of a state. -/
def State.outline (s : State) : Outline where
  ctrl := s.ctrl
  ring := s.ring.asm.outline
  timing := s.ring.stall.isSome
  tracker := s.tracker
  fix := s.odo.pendingFix
  values := s.runValue
  slots := s.link.slots
  order := s.link.readyOrder
  sending := s.link.tx.map Transmission.source

theorem State.Reports.outline {s t : State} (h : s.Reports t) : t.outline = s.outline := by
  rw [h.frame]
  rfl

/-- The LIVE class is no part of the outline. -/
theorem State.runValue_of_liveFrom {s t : State} (h : s.params.LiveFrom t.params) : t.runValue = s.runValue := by
  funext p
  unfold State.runValue
  split
  · next run => exact (h.effect p).resolve_right fun live => by rw [run] at live; cases live.1
  · rfl

/-- A taking changes values in effect alone. -/
theorem State.Takes.outline_values {s t : State} (h : s.Takes t) :
    t.outline = { s.outline with values := t.runValue } := by
  unfold State.outline
  rw [h.frame]

theorem State.Takes.outline {s t : State} (h : s.Takes t) (live : s.params.LiveFrom t.params) :
    t.outline = s.outline := by
  rw [h.outline_values, State.runValue_of_liveFrom live]
  rfl

/-- Frames missing are no part of the outline (R4). -/
theorem State.addMissing_outline (s : State) (gap : Nat) : (s.addMissing gap).outline = s.outline := by
  unfold State.addMissing
  split
  · next opened => simp only [State.outline, State.withRing, opened]; rfl
  · rfl

/-- Nor is a held mark (R125). -/
theorem State.pressMark_outline (s : State) : s.pressMark.outline = s.outline := by
  unfold State.pressMark
  split
  · next opened =>
    split
    · simp only [State.outline, State.withRing, opened]; rfl
    · rfl
  · rfl

theorem State.acceptLevel_outline (s : State) (i : InputPin) (v : Level) : (s.acceptLevel i v).outline = s.outline := by
  unfold State.acceptLevel
  split <;> rfl

/-! ### The moves -/

/-- The moves that a step is made of: what leaves the outline alone, and each operation that changes it, where it is
done. -/
inductive State.Move : State → State → Prop
  | quiet {s t : State} (h : t.outline = s.outline) : Move s t
  /-- The arbiter's choice (R157). -/
  | chosen (s : State) : Move s s.choose
  /-- The frame being sent is cut off or has been sent (R155, R156). -/
  | ceased {s t : State} (h : t.outline = { s.outline with sending := none }) : Move s t
  /-- A segment has been sent (R156, R162, R163). -/
  | segmentSent {s : State} {x : Transmission} {k : Fin 3} (sending : s.link.tx = some x) (h : x.source = .segment k) :
      Move s ((s.withLink { s.link with tx := none }).segmentSent k)
  /-- A sample of the open ring (R7, R36). -/
  | sampled (s : State) (raw : Nat) (x : Sample) : Move s (s.takeSample raw x)
  /-- A ring opens (R8). -/
  | ringOpened {w : Work} (waiting : w.st.ring.asm = .waiting) : Move w.st w.openRing.st
  /-- A ring closes (R11). -/
  | ringClosed {w : Work} {r : RingContext} (opened : w.st.ring.asm = .opened r) : Move w.st (w.closeRing r).st
  /-- A fix is placed in RUNNING or PAUSED (R97). -/
  | fixPlaced {w : Work} (run : w.st.ctrl.run = .running ∨ w.st.ctrl.run = .paused) (f : Fix) :
      Move w.st (w.placeFix f).st
  /-- A fatal cause is taken, should there be one (R140). -/
  | settled (w : Work) : Move w.st w.settle.st
  /-- The stall timer expires (R14). -/
  | stalled {s : State} (timing : s.ring.stall.isSome = true) :
      Move s (((Work.of s).modify fun s => s.withRing { s.ring with stall := none }).raise .headStall).settle.st
  /-- START, PAUSE, RESUME, STOP and CLEAR_FAULT accepted (R132, R135, R136, R138, R143). -/
  | started {w : Work} (run : w.st.ctrl.run = .idle) (v : Int) : Move w.st (w.startAt v).st
  | paused {w : Work} (run : w.st.ctrl.run = .running) : Move w.st w.pauseRun.st
  | resumed {w : Work} (run : w.st.ctrl.run = .paused) : Move w.st (w.gapClose.modify State.resumeRun).st
  | stopped {w : Work} (run : w.st.ctrl.run = .running ∨ w.st.ctrl.run = .paused) : Move w.st w.stopRun.st
  | faultCleared {s : State} (run : s.ctrl.run = .fault) :
      Move s (s.withCtrl { s.ctrl with run := .idle, faultRecord := none })
  /-- The two resets (R145, R146). -/
  | reset (s : State) : Move s s.afterReset
  | poweredOn (s : State) :
      Move s { State.reset with pins := s.pins, freeIndex := s.freeIndex, pending := s.pending }

/-- From `s` to `t` by moves. -/
def State.Goes (s t : State) : Prop := Relation.ReflTransGen State.Move s t

namespace State.Goes

variable {s t u : State} {w w' : Work}

theorem refl (s : State) : s.Goes s := Relation.ReflTransGen.refl

theorem move (h : s.Goes t) (m : t.Move u) : s.Goes u := .tail h m

theorem trans (h : s.Goes t) (k : t.Goes u) : s.Goes u := Relation.ReflTransGen.trans h k

/-- What every move keeps is kept along the way. -/
theorem keeps {P : State → Prop} (hP : ∀ s t, State.Move s t → P s → P t) (h : s.Goes t) (hs : P s) : P t := by
  induction h with
  | refl => exact hs
  | tail _ m ih => exact hP _ _ m ih

theorem quiet (h : s.Goes t) (same : u.outline = t.outline) : s.Goes u := h.move (.quiet same)

/-! ### A step under way goes on

Each lemma takes a step under way one operation further. -/

theorem modify {f : State → State} (h : s.Goes w.st) (same : (f w.st).outline = w.st.outline) :
    s.Goes (w.modify f).st :=
  h.quiet same

theorem ite {c : Prop} [Decidable c] (h : c → s.Goes w.st) (h' : ¬ c → s.Goes w'.st) :
    s.Goes (if c then w else w').st := by
  split
  · next hc => exact h hc
  · next hc => exact h' hc

theorem foldl {α : Type} {f : Work → α → Work} (hf : ∀ (w : Work) (x : α), s.Goes w.st → s.Goes (f w x).st)
    (xs : List α) (h : s.Goes w.st) : s.Goes (xs.foldl f w).st := by
  induction xs generalizing w with
  | nil => exact h
  | cons x xs ih => exact ih (hf w x h)

theorem queue (h : s.Goes w.st) (b : EventBody) : s.Goes (w.queue b).st := h.quiet (w.queue_reports b).outline

theorem raise (h : s.Goes w.st) (c : Cause) : s.Goes (w.raise c).st := h.quiet (w.raise_reports c).outline

theorem raiseIf (h : s.Goes w.st) (b : Bool) (c : Cause) : s.Goes (w.raiseIf b c).st :=
  h.quiet (w.raiseIf_reports b c).outline

theorem respond (h : s.Goes w.st) (x : Response) : s.Goes (w.respond x).st := h.modify rfl

theorem refuse (h : s.Goes w.st) (r : Request) (why : Reason) (i : Option Nat) : s.Goes (w.refuse r why i).st :=
  (h.raise _).respond _

theorem finish (h : s.Goes w.st) (r : Request) (payload : List Byte) : s.Goes (w.finish r payload).st := h.respond _

theorem settle (h : s.Goes w.st) : s.Goes w.settle.st := h.move (.settled w)

theorem takeLive (h : s.Goes w.st) : s.Goes w.takeLive.st := h.quiet (w.takeLive_takes.outline w.takeLive_liveFrom)

theorem odometerUpdate (h : s.Goes w.st) : s.Goes w.odometerUpdate.st :=
  .raiseIf (.modify (.raiseIf (h.modify rfl) _ _) rfl) _ _

theorem takeStrobe (h : s.Goes w.st) (run : w.st.ctrl.run = .running ∨ w.st.ctrl.run = .paused) :
    s.Goes w.takeStrobe.st := by
  unfold Work.takeStrobe
  dsimp only
  split
  · exact (h.queue _).raise _
  · exact .ite (fun _ => h.queue _) fun _ => h.move (.fixPlaced run _)

theorem gapResume (h : s.Goes w.st) (run : w.st.ctrl.run = .paused) :
    s.Goes (w.gapClose.modify State.resumeRun).st :=
  h.move (.resumed run)

theorem afterLiveWrite (h : s.Goes w.st) : s.Goes w.afterLiveWrite.st :=
  .ite (fun _ => h.modify rfl) fun _ => h.takeLive

/-! ### Rings -/

theorem takeSamples (h : s.Goes t) (a0 step j : Nat) (xs : List Sample) : s.Goes (t.takeSamples a0 step j xs) := by
  induction xs generalizing t j with
  | nil => exact h
  | cons x xs ih => exact ih (h.move (.sampled t _ x)) _

/-- After a ring has closed and no fatal cause ended the run, the next one opens (R11). -/
theorem ringStart (h : s.Goes w.st) : s.Goes w.ringStart.st := by
  unfold Work.ringStart
  split
  · exact h
  · next waiting => exact h.move (.ringOpened waiting)
  · next r opened =>
    have closed : s.Goes (w.closeRing r).settle.st := (h.move (.ringClosed opened)).settle
    refine .ite (fun running => closed.move (.ringOpened ?_)) fun _ => closed
    rcases (w.closeRing r).settle_cases with ⟨same, -⟩ | ⟨c, -, -, faulted⟩
    · rw [same]
      rfl
    · rw [faulted.ctrl] at running
      cases running

/-! ### The head link -/

theorem checkGap (h : s.Goes w.st) (seq : Byte) : s.Goes (w.checkGap seq).st := by
  have counted : s.Goes (w.modify fun s => s.withHead { s.head with badRun := 0, lastSeq := some seq }).st :=
    h.modify rfl
  exact .raiseIf (counted.modify (State.addMissing_outline _ _)) _ _

theorem handOver (h : s.Goes w.st) (f : HeadFrame) : s.Goes (w.handOver f).st := by
  cases f with
  | sampleRun a0 step samples => exact h.takeSamples _ _ _ _
  | ringStart _ => exact h.ringStart
  | headStatus bytes => exact .ite (fun _ => h.queue _) fun _ => h

theorem goodFrame (h : s.Goes w.st) (seq : Byte) (f : HeadFrame) : s.Goes (w.goodFrame seq f).st := by
  unfold Work.goodFrame
  split
  · exact h.modify rfl
  · exact (h.checkGap seq).settle.handOver f

theorem badFrame (h : s.Goes w.st) : s.Goes w.badFrame.st := by
  unfold Work.badFrame
  split
  · exact h.modify rfl
  · have reported := (h.raise .headFrameLoss).settle
    exact .ite (fun _ => reported.modify rfl) fun _ => .raise (reported.modify rfl) _

theorem judgeHead (h : s.Goes w.st) (frame : List Byte) : s.Goes (w.judgeHead frame).st := by
  unfold Work.judgeHead
  refine .settle ?_
  split
  · exact h.goodFrame _ _
  · exact h.badFrame

theorem setHeadPart (h : s.Goes w.st) (f : Option (List Byte)) : s.Goes (w.setHeadPart f).st := h.modify rfl

theorem headSymbol (h : s.Goes w.st) (x : Symbol) : s.Goes (w.headSymbol x).st := by
  unfold Work.headSymbol
  split
  · exact h.setHeadPart _
  · exact h
  · exact .ite (fun _ => (h.setHeadPart none).judgeHead _) fun _ => h.setHeadPart _
  · exact (h.setHeadPart _).badFrame.settle
  · exact (h.setHeadPart _).badFrame.settle
  · exact h

theorem receiveHead (h : s.Goes w.st) (x : Symbol) : s.Goes (w.receiveHead x).st :=
  .ite (fun _ => .headSymbol (h.modify rfl) x) fun _ => h.modify rfl

/-! ### The recorder link -/

theorem takeIn (h : s.Goes w.st) (r : Request) : s.Goes (w.takeIn r).st :=
  .ite (fun _ => h.modify rfl) fun _ =>
    .ite (fun _ => h) fun _ => .ite (fun _ => (h.respond _).raise _) fun _ => h.raise _

theorem judgeFrame (h : s.Goes w.st) (xs : List Symbol) : s.Goes (w.judgeFrame xs).st := by
  unfold Work.judgeFrame
  refine .settle ?_
  split
  · exact h.takeIn _
  · exact h.raise _

theorem setPartFrame (h : s.Goes w.st) (f : Option (List Symbol)) : s.Goes (w.setPartFrame f).st := h.modify rfl

theorem receiveUp (h : s.Goes w.st) (x : Symbol) : s.Goes (w.receiveUp x).st := by
  unfold Work.receiveUp
  split
  · exact h.setPartFrame _
  · exact h
  · exact (h.setPartFrame _).judgeFrame _
  · exact (h.setPartFrame _).judgeFrame _
  · exact h.setPartFrame _

/-- The link goes DOWN with the frame being sent cut off (R155, R156). -/
theorem goDown (h : s.Goes w.st) (sync : SymbolLock) : s.Goes (w.goDown sync).st := by
  have down : s.Goes (w.modify fun s => s.withLink { s.link with sync := sync, partFrame := none, tx := none }).st :=
    h.move (.ceased rfl)
  exact .settle (down.raiseIf _ _)

theorem receive (h : s.Goes w.st) (x : Symbol) : s.Goes (w.receive x).st :=
  .ite (fun _ => h.goDown _) fun _ => .ite (fun _ => .receiveUp (h.modify rfl) x) fun _ => h.modify rfl

/-- The frame being sent leaves its source (R156). -/
theorem transmitted (h : s.Goes t) : s.Goes t.transmitted := by
  unfold State.transmitted
  split
  · exact h
  · next x sending =>
    have ceased : s.Goes (t.withLink { t.link with tx := none }) := h.move (.ceased rfl)
    dsimp only
    split
    · exact ceased.quiet rfl
    · exact ceased.quiet rfl
    · next segment => exact h.move (.segmentSent sending segment)

/-! ### Requests -/

/-- The performing of every kind of request. -/
theorem body (h : s.Goes w.st) (k : RequestKind) (r : Request) : s.Goes (k.body r w).st := by
  cases k with
  | identify | readStatus | readIntrusions => exact .ite (fun _ => h.finish _ _) fun _ => h.refuse _ _ _
  | clearCauses => exact .ite (fun _ => .finish (h.modify rfl) _ _) fun _ => h.refuse _ _ _
  | headPass => exact .ite (fun _ => h.modify rfl) fun _ => h.refuse _ _ _
  | reset => exact .ite (fun _ => .modify (h.finish _ _) rfl) fun _ => h.refuse _ _ _
  | pause =>
    exact .ite (fun _ => .ite (fun run => .finish (h.move (.paused run)) _ _) fun _ => h.refuse _ _ _) fun _ =>
      h.refuse _ _ _
  | resume =>
    exact .ite (fun _ => .ite (fun run => .ite (fun _ => .finish (h.gapResume run) _ _) fun _ => h.refuse _ _ _)
      fun _ => h.refuse _ _ _) fun _ => h.refuse _ _ _
  | stop =>
    exact .ite (fun _ => .ite (fun run => .finish (h.move (.stopped run)) _ _) fun _ => h.refuse _ _ _) fun _ =>
      h.refuse _ _ _
  | clearFault =>
    refine .ite (fun _ => .ite (fun run => ?_) fun _ => h.refuse _ _ _) fun _ => h.refuse _ _ _
    have cleared : s.Goes (w.modify fun s => s.withCtrl { s.ctrl with run := .idle, faultRecord := none }).st :=
      h.move (.faultCleared run)
    exact cleared.finish _ _
  | start =>
    simp only [RequestKind.body, Machine.start]
    split
    · refine .ite (fun _ => h.refuse _ _ _) fun idle => .ite (fun _ => h.refuse _ _ _) fun _ => ?_
      split
      · exact h.refuse _ _ _
      · exact .finish (h.move (.started (not_not.1 idle) _)) _ _
    · exact h.refuse _ _ _
  | fixChainage =>
    simp only [RequestKind.body, Machine.fixChainage]
    split
    · refine .ite (fun _ => h.refuse _ _ _) fun noFault => .finish ?_ _ _
      refine .ite (fun _ => h.modify rfl) fun noIdle => h.move (.fixPlaced ?_ _)
      generalize w.st.ctrl.run = run at noFault noIdle ⊢
      cases run <;> simp_all
    · exact h.refuse _ _ _
  | setParam =>
    simp only [RequestKind.body, Machine.setParam]
    split
    · split
      · exact .finish (.ite (fun _ => .afterLiveWrite (h.modify rfl)) fun _ => h.modify rfl) _ _
      · exact h.refuse _ _ _
    · exact h.refuse _ _ _
  | getParam =>
    simp only [RequestKind.body, Machine.getParam]
    split
    · split
      · exact h.finish _ _
      · exact h.refuse _ _ _
    · exact h.refuse _ _ _
  | commitEnvelope =>
    simp only [RequestKind.body, Machine.commitEnvelope]
    split
    · split
      · exact .finish (h.modify rfl) _ _
      · exact h.refuse _ _ _
    · exact h.refuse _ _ _
  | readEnvelope =>
    simp only [RequestKind.body, Machine.readEnvelope]
    split
    · split
      · exact .ite (fun _ => h.finish _ _) fun _ => h.refuse _ _ _
      · exact h.refuse _ _ _
    · exact h.refuse _ _ _
  | loadEnvelope =>
    simp only [RequestKind.body, Machine.loadEnvelope]
    split
    · refine .ite (fun _ => ?_) fun _ => h.refuse _ _ _
      split
      · exact .ite (fun _ => h.refuse _ _ _) fun _ => .finish (h.modify rfl) _ _
      · exact h.refuse _ _ _
    · exact h.refuse _ _ _
  | loadRoute =>
    simp only [RequestKind.body, Machine.loadRoute]
    split
    · refine .ite (fun _ => .ite (fun _ => .ite (fun _ => ?_) fun _ => h.refuse _ _ _) fun _ => h.refuse _ _ _) fun _ =>
        h.refuse _ _ _
      split
      · exact h.refuse _ _ _
      · exact .finish (h.modify rfl) _ _
    · exact h.refuse _ _ _
  | trimRoute =>
    simp only [RequestKind.body, Machine.trimRoute]
    split
    · exact .ite (fun _ => .ite (fun _ => .finish (h.modify rfl) _ _) fun _ => h.refuse _ _ _) fun _ => h.refuse _ _ _
    · exact h.refuse _ _ _
  | readRoute =>
    simp only [RequestKind.body, Machine.readRoute]
    split
    · exact .ite (fun _ => h.finish _ _) fun _ => h.refuse _ _ _
    · exact h.refuse _ _ _

end State.Goes

/-! ### Commands -/

namespace Answers

variable {s t : State} {w : Work}

theorem done (h : s.Goes w.st) : Answers s.Goes w.done := next h.settle

/-- A request row goes as its performing does (R167). -/
theorem perform {body : Request → Work → Work} (h : ∀ (r : Request) (w : Work), s.Goes w.st → s.Goes (body r w).st)
    (serves : Option RequestKind → Bool) : Answers s.Goes (perform serves body s) := by
  unfold Machine.perform
  split
  · exact done (h _ _ ((State.Goes.refl s).quiet rfl))
  · exact next (.refl s)

/-- The command that performs the requests of a kind, or of none (R167). -/
theorem performingCommand (k : Option RequestKind) : Answers s.Goes (exec (performingCommand k) s) := by
  cases k with
  | none => exact perform (fun r w h => h.refuse _ _ _) _
  | some k =>
    rw [exec_performingCommand]
    exact perform (fun r w h => h.body k r) _

theorem headSymbols (xs : List Symbol) : Answers s.Goes (xs.foldl Work.receiveHead (Work.of s)).done :=
  done (.foldl (fun _ x h => h.receiveHead x) xs (.refl s))

theorem upstreamSymbols (xs : List Symbol) : Answers s.Goes (xs.foldl Work.receive (Work.of s)).done :=
  done (.foldl (fun _ x h => h.receive x) xs (.refl s))

theorem wheelDecode (w : Wheel) (a b : Level) : Answers s.Goes (execWheelDecode w a b s) := by
  have accepted : s.Goes ((s.acceptLevel (wheelPinA w) a).acceptLevel (wheelPinB w) b) :=
    (State.Goes.refl s).quiet ((State.acceptLevel_outline _ _ _).trans (s.acceptLevel_outline _ _))
  have counted : ∀ (u : State) (n : Int), (u.withOdo (u.odo.addCount w n)).outline = u.outline := by
    intro u n
    cases w <;> rfl
  exact done (.raiseIf (.modify (w := Work.of _) accepted (counted _ _)) _ _)

theorem tagStrobe : Answers s.Goes (execTagStrobe s) := by
  have accepted : s.Goes (Work.of (s.acceptLevel .tagStb .high)).st :=
    (State.Goes.refl s).quiet (s.acceptLevel_outline _ _)
  have ctrl : (s.acceptLevel .tagStb .high).ctrl = s.ctrl := congrArg Outline.ctrl (s.acceptLevel_outline _ _)
  unfold execTagStrobe
  dsimp only
  split
  · next run => exact done (accepted.takeStrobe (by rwa [Work.of_st, ctrl]))
  · exact done accepted

theorem headStall : Answers s.Goes (execHeadStall s) := by
  unfold execHeadStall
  split
  · next timing => exact next ((State.Goes.refl s).move (.stalled timing))
  · exact next (.refl s)

theorem headPassDone : Answers s.Goes (execHeadPassDone s) := by
  unfold execHeadPassDone
  split
  · exact done (.respond (.modify (w := Work.of s) (.refl s) rfl) _)
  · exact next (.refl s)

end Answers

/-- Every command goes by moves. -/
theorem exec_goes (c : Instr) (s : State) : Answers s.Goes (exec c s) := by
  have start := State.Goes.refl s
  cases c with
  | headFrameGood xs | headFrameBad xs => exact .headSymbols xs
  | headStall => exact .headStall
  | odometerUpdate => exact .done (State.Goes.odometerUpdate (w := Work.of s) start)
  | wheelDecode w a b => exact .wheelDecode w a b
  | tagStrobe => exact .tagStrobe
  | markPress => exact .next (start.quiet ((State.pressMark_outline _).trans (s.acceptLevel_outline _ _)))
  | requestFrame xs => exact .upstreamSymbols xs
  | unknownKind => exact .performingCommand none
  | identify => exact .performingCommand (some .identify)
  | readStatus => exact .performingCommand (some .readStatus)
  | clearCauses => exact .performingCommand (some .clearCauses)
  | setParam => exact .performingCommand (some .setParam)
  | getParam => exact .performingCommand (some .getParam)
  | loadEnvelope => exact .performingCommand (some .loadEnvelope)
  | commitEnvelope => exact .performingCommand (some .commitEnvelope)
  | readEnvelope => exact .performingCommand (some .readEnvelope)
  | loadRoute => exact .performingCommand (some .loadRoute)
  | trimRoute => exact .performingCommand (some .trimRoute)
  | readRoute => exact .performingCommand (some .readRoute)
  | start => exact .performingCommand (some .start)
  | pause => exact .performingCommand (some .pause)
  | resume => exact .performingCommand (some .resume)
  | stop => exact .performingCommand (some .stop)
  | clearFault => exact .performingCommand (some .clearFault)
  | fixChainage => exact .performingCommand (some .fixChainage)
  | readIntrusions => exact .performingCommand (some .readIntrusions)
  | headPass => exact .performingCommand (some .headPass)
  | headPassDone => exact .headPassDone
  | reset => exact .performingCommand (some .reset)
  | resetTakesEffect => exact .ite (.next (start.move (.reset s))) (.next start)
  | powerOnReset => exact .next (start.move (.poweredOn s))
  | arbiterChoose => exact .next (start.move (.chosen s))
  | frameTransmitted => exact .ite (.next (start.move (.reset s))) (.next start.transmitted)
  | recorderLinkUp => exact .ite (.next start) (.upstreamSymbols _)
  | recorderLinkDown xs => exact .ite (.upstreamSymbols xs) (.next start)
  | headSymbolLock => exact .ite (.next start) (.headSymbols _)
  | headSymbolLockLost xs => exact .ite (.headSymbols xs) (.next start)
  | inputLevelChange pin level => exact .next (start.quiet rfl)
  | filteredFallingEdge input => exact .next (start.quiet (s.acceptLevel_outline _ _))

/-! ### A tick -/

namespace State.Goes

variable {s t : State}

theorem after (h : s.Goes t) (c : Instr) : s.Goes (t.after c) := by
  unfold State.after
  split
  · next u hu => exact h.trans (exec_goes c t u hu)
  · exact h
  · exact h

theorem afterIf (h : s.Goes t) (b : Bool) (c : Instr) : s.Goes (t.afterIf b c) := by
  unfold State.afterIf
  split
  · exact h.after c
  · exact h

theorem sampleInput (h : s.Goes t) (i : InputPin) : s.Goes (t.sampleInput i) := h.quiet rfl

theorem tickInputs (h : s.Goes t) : s.Goes t.tickInputs := by
  have wheels := (((h.sampleInput .whlA).sampleInput .whlB).sampleInput .whrA).sampleInput .whrB
  have sampled := (wheels.sampleInput .tagStb).sampleInput .markKey
  exact (((sampled.afterIf _ _).afterIf _ _).afterIf _ _).afterIf _ _

theorem tickHeadPass (h : s.Goes t) : s.Goes t.tickHeadPass := by
  unfold State.tickHeadPass
  split
  · refine .afterIf (h.quiet ?_) _ _
    rfl
  · exact h

/-- The symbols sent of a frame are no part of the outline. -/
theorem tickTransmit (h : s.Goes t) : s.Goes t.tickTransmit := by
  unfold State.tickTransmit
  split
  · next x sending =>
    have sent : s.Goes (t.withLink { t.link with
        tx := some { x with sent := x.sent + Config.symbolsPerMicrosecond } }) :=
      h.quiet (by simp only [State.outline, State.withLink, sending]; rfl)
    dsimp only
    split
    · exact sent.after _
    · exact sent
  · exact h

theorem tickAgent (h : s.Goes t) : s.Goes t.tickAgent := by
  unfold State.tickAgent
  split
  · exact h.after _
  · exact h

theorem tick (h : s.Goes t) : s.Goes t.tick := by
  have clock : s.Goes t.tickClock := by
    refine .afterIf (h.quiet ?_) _ _
    rfl
  have stall : s.Goes t.tickClock.tickInputs.tickStall := clock.tickInputs.afterIf _ _
  exact stall.tickHeadPass.tickTransmit.tickAgent.after _

end State.Goes

/-- Every step goes by moves, whether it takes a command or is one microsecond. -/
theorem step_goes {s t : State} (h : step s = .next t) : s.Goes t := by
  unfold step at h
  split at h
  · rw [← Host.Outcome.next.inj h]
    exact (State.Goes.refl s).tick
  · next c rest _ =>
    have popped : s.Goes (s.withPending rest) := (State.Goes.refl s).quiet rfl
    exact popped.trans (exec_goes c _ t h)

end Sys2Proof.Machine
end

section
/-! SUPPORT. What each move makes of the outline. -/

namespace Sys2Proof.Machine

/-! ### Leaving RUNNING, PAUSE, RESUME, STOP and fault entry -/

/-- The profile slots with the open ring's freed (R161). -/
def Outline.slotsFreed (o : Outline) : Vector ProfileSlot 3 :=
  match o.ring with
  | .opened (some k) => o.slots.set k.val .free
  | _ => o.slots

/-- The outline after the work of leaving RUNNING (R134). -/
def Outline.left (o : Outline) : Outline :=
  { o with ring := .inactive, timing := false, tracker := { o.tracker with alert := false }, slots := o.slotsFreed }

/-- The outline with the run over: RUNNING left, no fix pending, every intrusion closed (R138, R140). -/
def Outline.ended (o : Outline) (ctrl : RunController) : Outline :=
  let closed : Outline := { o with fix := none, tracker := o.tracker.cleared, ctrl := ctrl }
  if o.ctrl.run = .running then closed.left else closed

/-- The outline after fault entry on a cause (R140). -/
def Outline.faulted (o : Outline) (x : FaultRecord) : Outline :=
  o.ended { o.ctrl with run := .fault, chainageAtPause := none, faultRecord := some x }

theorem State.dropProfile_outline {s : State} {r : RingContext} (opened : s.ring.asm = .opened r) :
    (s.dropProfile r).outline = { s.outline with slots := s.outline.slotsFreed } := by
  have ring : s.outline.ring = .opened r.profileSlot := by simp only [State.outline, opened, Assembler.outline]
  rw [Outline.slotsFreed, ring]
  unfold State.dropProfile
  cases r.profileSlot <;> rfl

theorem Work.abandonRing_outline (w : Work) :
    w.abandonRing.st.outline = { w.st.outline with slots := w.st.outline.slotsFreed } := by
  unfold Work.abandonRing State.openRing
  split
  · next r found =>
    have opened : w.st.ring.asm = .opened r := by
      split at found
      · next opened => rw [opened, Option.some.inj found]
      · cases found
    exact (Work.queueMark_reports _ r .abandoned).outline.trans (State.dropProfile_outline opened)
  · next found =>
    unfold Outline.slotsFreed
    split
    · next k opened =>
      have := opened
      simp only [State.outline] at opened
      cases asm : w.st.ring.asm with
      | opened r => rw [asm] at found; cases found
      | inactive | waiting => rw [asm] at opened; cases opened
    · rfl

theorem Work.leaveRunning_outline (w : Work) : w.leaveRunning.st.outline = w.st.outline.left := by
  unfold Work.leaveRunning
  rw [(Work.takeLiveIfWaiting_takes _).outline (Work.takeLiveIfWaiting_liveFrom _)]
  change { w.abandonRing.st.outline with
    ring := .inactive, timing := false, tracker := { w.abandonRing.st.outline.tracker with alert := false } } = _
  rw [w.abandonRing_outline]
  rfl

theorem Work.cancelFix_outline (w : Work) : w.cancelFix.st.outline = { w.st.outline with fix := none } := by
  rw [w.cancelFix_frame.1]
  rfl

theorem Work.closeAll_outline (w : Work) (why : CloseCause) (c : Int) :
    (w.closeAll why c).st.outline = { w.st.outline with tracker := w.st.outline.tracker.cleared } := by
  rw [(w.closeAll_frame why c).1]
  rfl

theorem Work.queue_outline (w : Work) (b : EventBody) : (w.queue b).st.outline = w.st.outline :=
  (w.queue_reports b).outline

theorem State.endRun_outline (s : State) (r : RunState) :
    (s.endRun r).outline = { s.outline with ctrl := { s.outline.ctrl with run := r, chainageAtPause := none } } := rfl

/-- What STOP and fault entry have in common. -/
theorem Work.ended_outline (w : Work) (why : CloseCause) (c : Int) (b : EventBody) (r : RunState) :
    ((((if w.st.ctrl.run = .running then w.leaveRunning else w).cancelFix.closeAll why c).queue b).modify fun s =>
      s.endRun r).st.outline = w.st.outline.ended { w.st.outline.ctrl with run := r, chainageAtPause := none } := by
  rw [Work.modify_st, State.endRun_outline, Work.queue_outline, Work.closeAll_outline, Work.cancelFix_outline,
    Outline.ended]
  by_cases run : w.st.ctrl.run = .running
  · rw [if_pos run, if_pos (show w.st.outline.ctrl.run = .running from run), w.leaveRunning_outline]
    rfl
  · rw [if_neg run, if_neg (show ¬ w.st.outline.ctrl.run = .running from run)]

theorem Work.stopRun_outline (w : Work) :
    w.stopRun.st.outline =
      w.st.outline.ended { w.st.outline.ctrl with run := .idle, chainageAtPause := none } :=
  w.ended_outline _ _ _ _

theorem Work.faultEntry_outline (w : Work) (c : Cause) :
    (w.faultEntry c).st.outline =
      w.st.outline.faulted { cause := c, ringSeq := w.st.ring.ringSeq, chainage := w.st.chainage } :=
  (w.modify fun s => s.withCtrl { s.ctrl with
    faultRecord := some { cause := c, ringSeq := s.ring.ringSeq, chainage := w.st.chainage } }).ended_outline _ _ _ _

/-- A fatal cause taken: nothing, or fault entry (R140, R142). -/
theorem Work.settle_outline (w : Work) :
    (w.settle.st.outline = w.st.outline ∧ (w.fatal = none ∨ ¬ (w.st.ctrl.run = .running ∨ w.st.ctrl.run = .paused))) ∨
    (w.st.ctrl.run = .running ∨ w.st.ctrl.run = .paused) ∧ ∃ x, w.settle.st.outline = w.st.outline.faulted x := by
  unfold Work.settle
  split
  · next none => exact .inl ⟨rfl, .inl none⟩
  · split
    · next run => exact .inr ⟨run, _, w.faultEntry_outline _⟩
    · next run => exact .inl ⟨rfl, .inr run⟩

theorem Work.pauseRun_outline (w : Work) : ∃ c : Int,
    w.pauseRun.st.outline =
      { w.st.outline.left with ctrl := { w.st.outline.ctrl with run := .paused, chainageAtPause := some c } } := by
  refine ⟨w.leaveRunning.st.chainage, ?_⟩
  change { w.leaveRunning.st.outline with ctrl := { w.leaveRunning.st.outline.ctrl with
    run := .paused, chainageAtPause := some w.leaveRunning.st.chainage } } = _
  rw [w.leaveRunning_outline]
  rfl

/-- A gap at RESUME clears the table and the sectors (R137). -/
theorem Work.gapClose_outline (w : Work) :
    w.gapClose.st.outline = w.st.outline ∨
    w.gapClose.st.outline = { w.st.outline with tracker := w.st.outline.tracker.cleared } := by
  unfold Work.gapClose
  split
  · split
    · exact .inr (w.closeAll_outline _ _)
    · exact .inl rfl
  · exact .inl rfl

theorem State.resumeRun_outline (s : State) :
    s.resumeRun.outline = { s.outline with
      ctrl := { s.outline.ctrl with run := .running, chainageAtPause := none }
      ring := .waiting, timing := true
      tracker := { s.outline.tracker with alert := !s.outline.tracker.table.isEmpty } } := rfl

/-! ### START and the resets -/

/-- The sectors, the table and the counter as START and the resets leave them (R56, R86). -/
def SectorTracker.restarted (t : SectorTracker) : SectorTracker := { t.cleared.emptied with counter := 1 }

/-- The RUN taking puts admitted values into effect (R150, R152). -/
theorem Work.takeRun_outline (w : Work) : ∃ values : ParamId → Int,
    (∀ p : ParamId, (paramRow p).cls = .run → (paramRow p).admits (values p) = true) ∧
    w.takeRun.st.outline = { w.st.outline with values := values } := by
  have taken := w.take_takes ParamClass.isRun true
  have params := (w.take_params ParamClass.isRun true).2.1
  unfold Work.takeRun
  generalize w.take ParamClass.isRun true = v at taken params
  refine ⟨v.st.runValue, fun p run => ?_, taken.outline_values⟩
  rw [State.runValue, if_pos run, State.eff, params p, if_pos (by simp [ParamClass.isRun, run])]
  exact paramRow_admits_adjusted _ p

/-- What START does once the RUN class is taken (R132). -/
theorem State.begin_outline (s : State) (v : Int) :
    (((s.startRing.startSectors).startTravel v).startRun v).outline = { s.outline with
      ctrl := { s.outline.ctrl with run := .running, startChainage := some v, chainageAtPause := none }
      ring := .waiting, timing := true, tracker := s.outline.tracker.restarted } := rfl

theorem Work.startAt_outline (w : Work) (v : Int) : ∃ values : ParamId → Int,
    (∀ p : ParamId, (paramRow p).cls = .run → (paramRow p).admits (values p) = true) ∧
    (w.startAt v).st.outline = { w.st.outline with
      ctrl := { w.st.outline.ctrl with run := .running, startChainage := some v, chainageAtPause := none }
      ring := .waiting, timing := true, tracker := w.st.outline.tracker.restarted, values := values } := by
  obtain ⟨values, admitted, outline⟩ := w.takeRun_outline
  refine ⟨values, admitted, ?_⟩
  unfold Work.startAt
  rw [Work.modify_st, State.begin_outline, outline]

theorem State.afterReset_outline (s : State) : ∃ values : ParamId → Int,
    (∀ p : ParamId, (paramRow p).cls = .run → (paramRow p).admits (values p) = true) ∧
    s.afterReset.outline = { State.reset.outline with values := values } := by
  refine ⟨s.afterReset.runValue, fun p run => ?_, rfl⟩
  rw [State.runValue, if_pos run]
  exact s.afterReset_effectAdmitted.1 p

theorem State.reset_runValue (p : ParamId) (run : (paramRow p).cls = .run) :
    (paramRow p).admits (State.reset.outline.values p) = true := by
  change (paramRow p).admits (State.reset.runValue p) = true
  rw [State.runValue, if_pos run]
  exact State.reset_effectAdmitted.1 p

/-! ### Fixes -/

theorem Work.placeFix_outline (w : Work) (f : Fix) :
    (w.placeFix f).st.outline = { w.st.outline with fix := some f } := by
  unfold Work.placeFix
  dsimp only
  split
  · exact Work.queue_outline _ _
  · rfl

theorem Work.applyFix_outline (w : Work) : w.applyFix.st.outline = { w.st.outline with fix := none } := by
  unfold Work.applyFix
  split
  · next noFix => simp only [State.outline, noFix]
  · exact (Work.queue_outline _ _).trans (Work.raiseIf_reports _ _ _).outline

end Sys2Proof.Machine
end

section
/-! SUPPORT. What the moves of the rings and of the output side make of the outline. -/

namespace Sys2Proof.Machine

/-! ### A ring opens -/

/-- What the claim of an opening ring makes of the profile slots (R159). -/
inductive SlotClaim (slots : Vector ProfileSlot 3) : Option (Fin 3) → Vector ProfileSlot 3 → Prop
  | none : SlotClaim slots none slots
  | claimed {k : Fin 3} (free : slots[k] = .free) : SlotClaim slots (some k) (slots.set k.val (.filling [] 0 false))

theorem ProfileSlot.eq_free_of_isFree {x : ProfileSlot} (h : x.isFree = true) : x = .free := by
  cases x <;> simp_all [ProfileSlot.isFree]

theorem Work.claimProfile_outline (w : Work) (n d : Nat) : ∃ slots,
    SlotClaim w.st.outline.slots (w.claimProfile n d).2 slots ∧
    (w.claimProfile n d).1.st.outline = { w.st.outline with slots := slots } := by
  unfold Work.claimProfile
  split
  · split
    · next k found =>
      have free : w.st.link.slots[k].isFree = true :=
        List.find?_some (p := fun k : Fin 3 => w.st.link.slots[k].isFree) found
      exact ⟨_, .claimed (ProfileSlot.eq_free_of_isFree free), rfl⟩
    · exact ⟨_, .none, (Work.raise_reports _ _).outline⟩
  · exact ⟨_, .none, rfl⟩

/-- The steps of an opening before the profile claim apply the pending fix and leave the rest of the outline. -/
theorem Work.openingSteps_outline (w : Work) : ∃ slots,
    SlotClaim w.st.outline.slots w.openingSteps.2 slots ∧
    w.openingSteps.1.st.outline = { w.st.outline with fix := none, slots := slots } := by
  unfold Work.openingSteps
  dsimp only
  generalize hr : (w.modify fun s => s.withRing { s.ring with ringSeq := satInc Config.top32 s.ring.ringSeq }) = raised
  have start : raised.st.outline = w.st.outline := hr ▸ rfl
  have fixed : raised.takeLiveIfWaiting.applyFix.st.outline = { w.st.outline with fix := none } := by
    rw [Work.applyFix_outline, raised.takeLiveIfWaiting_takes.outline raised.takeLiveIfWaiting_liveFrom, start]
  generalize raised.takeLiveIfWaiting.applyFix = v at fixed
  generalize hs : (v.raiseIf (Machine.spacedWide (v.st.effNat Param.maxSpacing) (v.st.odo.spacing v.st.chainage))
    .spacingWide).selectSegment = u
  have outline : u.st.outline = { w.st.outline with fix := none } := by
    rw [← hs, ← fixed]
    exact (Work.raiseIf_reports _ _ _).outline.trans (Work.raiseIf_reports _ _ _).outline
  obtain ⟨slots, claims, claimed⟩ := u.claimProfile_outline u.st.ring.ringSeq (u.st.effNat Param.decimation)
  rw [outline] at claims claimed
  exact ⟨slots, claims, claimed⟩

theorem State.ringOpened_outline (s : State) (r : RingContext) (expiry : BitVec 32) :
    ((s.commitWaiting.withTracker s.tracker.emptied).withRing
      { s.ring with asm := .opened r, stall := some expiry }).outline =
      { s.outline with ring := .opened r.profileSlot, timing := true, tracker := s.outline.tracker.emptied } := rfl

theorem Work.openRing_outline (w : Work) : ∃ slot slots,
    SlotClaim w.st.outline.slots slot slots ∧
    w.openRing.st.outline = { w.st.outline with
      ring := .opened slot, timing := true, tracker := w.st.outline.tracker.emptied, fix := none, slots := slots } := by
  obtain ⟨slots, claims, steps⟩ := w.openingSteps_outline
  refine ⟨_, slots, claims, ?_⟩
  unfold Work.openRing
  generalize w.openingSteps = opening at claims steps
  refine (State.ringOpened_outline opening.1.st _ _).trans ?_
  rw [steps]
  rfl

/-! ### A ring closes -/

/-- The tracker after the evaluation pass of a closing ACCEPTED ring (R75, R76, R85). -/
def State.evaluated (s : State) (r : RingContext) : SectorTracker :=
  { s.tracker with
    sectors := (s.evaluate r).sectors, table := (s.evaluate r).table, counter := (s.evaluate r).counter
    alert := !(s.evaluate r).table.isEmpty }

/-- What an ACCEPTED close makes of the profile slots and the order of transmission (R161). -/
inductive SlotReady (slots : Vector ProfileSlot 3) (order : List (Fin 3)) :
    Option (Fin 3) → Vector ProfileSlot 3 → List (Fin 3) → Prop
  | none : SlotReady slots order none slots order
  | unclaimed {k : Fin 3} (h : ∀ points n truncated, slots[k] ≠ .filling points n truncated) :
      SlotReady slots order (some k) slots order
  | ready {k : Fin 3} {points : List Point} {n : Nat} {truncated : Bool} {p : Profile}
      (filling : slots[k] = .filling points n truncated) (same : p.points = points) :
      SlotReady slots order (some k) (slots.set k.val (.ready p)) (order ++ [k])

theorem State.makeReady_outline (s : State) (r : RingContext) (x : Summary) : ∃ slots order,
    SlotReady s.outline.slots s.outline.order r.profileSlot slots order ∧
    (s.makeReady r x).outline = { s.outline with slots := slots, order := order } := by
  unfold State.makeReady
  cases r.profileSlot with
  | none => exact ⟨_, _, .none, rfl⟩
  | some k =>
    dsimp only
    split
    · next filling => exact ⟨_, _, .ready filling rfl, rfl⟩
    · next h => exact ⟨_, _, .unclaimed fun points n truncated => h points n truncated, rfl⟩

theorem Work.evaluate_outline (w : Work) (r : RingContext) :
    (w.evaluate r).st.outline = { w.st.outline with tracker := w.st.evaluated r } :=
  (Work.foldl_emit_reports _ _).outline

theorem Work.closeAccepted_outline (w : Work) (r : RingContext) : ∃ slots order,
    SlotReady w.st.outline.slots w.st.outline.order r.profileSlot slots order ∧
    (w.closeAccepted r).st.outline =
      { w.st.outline with tracker := w.st.evaluated r, slots := slots, order := order } := by
  obtain ⟨slots, order, readies, ready⟩ := (w.evaluate r).st.makeReady_outline r (w.st.summary r.slot)
  rw [w.evaluate_outline] at readies ready
  exact ⟨slots, order, readies, (Work.queueMark_reports ((w.evaluate r).modify _) r .accepted).outline.trans ready⟩

theorem Work.closeDiscarded_outline {w : Work} {r : RingContext} (opened : w.st.ring.asm = .opened r) (tooLong : Bool) :
    (w.closeDiscarded r tooLong).st.outline = { w.st.outline with slots := w.st.outline.slotsFreed } := by
  unfold Work.closeDiscarded
  refine (Work.raiseIf_reports _ _ _).outline.trans ?_
  rw [Work.modify_st]
  have counted : ∀ u : State, (u.withRing
      (if tooLong then { u.ring with long := satInc Config.top32 u.ring.long, discards := u.ring.discards + 1 }
       else { u.ring with short := satInc Config.top32 u.ring.short, discards := u.ring.discards + 1 })).outline =
      u.outline := by
    intro u
    cases tooLong <;> rfl
  rw [counted, (Work.raise_reports _ _).outline, (Work.queueMark_reports _ _ _).outline, Work.modify_st,
    State.dropProfile_outline opened]

/-- A ring closes ACCEPTED, or its profile slot is freed; the Ring Assembler waits (R11). -/
theorem Work.closeRing_outline {w : Work} {r : RingContext} (opened : w.st.ring.asm = .opened r) :
    (w.closeRing r).st.outline = { w.st.outline with ring := .waiting, slots := w.st.outline.slotsFreed } ∨
    ∃ slots order, SlotReady w.st.outline.slots w.st.outline.order r.profileSlot slots order ∧
      (w.closeRing r).st.outline =
        { w.st.outline with ring := .waiting, tracker := w.st.evaluated r, slots := slots, order := order } := by
  have waits : ∀ u : State, (u.withRing { u.ring with asm := .waiting }).outline = { u.outline with ring := .waiting } :=
    fun _ => rfl
  unfold Work.closeRing
  dsimp only
  rw [Work.modify_st, waits]
  split
  · obtain ⟨slots, order, readies, closed⟩ := w.closeAccepted_outline r
    rw [closed]
    exact .inr ⟨slots, order, readies, rfl⟩
  · rw [Work.closeDiscarded_outline opened]
    exact .inl rfl
  · rw [Work.closeDiscarded_outline opened]
    exact .inl rfl
  · next abandoned =>
    unfold classify at abandoned
    split at abandoned
    · cases abandoned
    · split at abandoned <;> cases abandoned

/-! ### A sample -/

/-- A solved sample with judgement INFRINGING has a clearance below zero (R35). -/
def Solved.Sound (x : Solved) : Prop :=
  x.point.judgement = .infringing → ∃ q, x.clearance = some q ∧ q < 0

theorem solve_sound (s : State) (r : RingContext) (theta : Nat) (x : Sample) : (solve s r theta x).Sound := by
  intro infringing
  simp only [solve] at infringing ⊢
  generalize limitOf s r.slot (sectorOf theta) = limit at infringing ⊢
  unfold judge at infringing ⊢
  dsimp only at infringing ⊢
  split_ifs at infringing ⊢
  exact ⟨_, rfl, by assumption⟩

/-- A sample delivered: to its sector's accumulator and to the ring's slot (R36). -/
def Outline.delivered (o : Outline) (r : RingContext) (x : Solved) : Outline :=
  { o with
    tracker := { o.tracker with
      accumulators := o.tracker.accumulators.set x.sector.val (o.tracker.accumulators[x.sector].add x) }
    slots := match r.profileSlot with
      | some k => o.slots.set k.val (o.slots[k].deliver r.stride x.point)
      | none => o.slots }

theorem State.deliver_outline (s : State) (r : RingContext) (x : Solved) :
    (s.deliver r x).outline = s.outline.delivered r x := by
  unfold State.deliver Outline.delivered
  cases r.profileSlot <;> rfl

/-- A sample leaves the outline alone, or goes to its sector's accumulator and to the open ring's slot (R7, R36). -/
theorem State.takeSample_outline (s : State) (raw : Nat) (x : Sample) :
    (s.takeSample raw x).outline = s.outline ∨
    ∃ (r : RingContext) (v : Solved), s.ring.asm = .opened r ∧ v.Sound ∧
      (s.takeSample raw x).outline = s.outline.delivered r v := by
  unfold State.takeSample
  split
  · next r opened =>
    have ring : ∀ (v : Validity) (theta : Nat), (r.count v theta).profileSlot = r.profileSlot := by
      intro v theta
      cases v <;> rfl
    dsimp only
    have counted : ∀ (v : Validity) (theta : Nat),
        (s.withRing { s.ring with asm := .opened (r.count v theta) }).outline = s.outline := by
      intro v theta
      simp only [State.outline, State.withRing, opened, Assembler.outline, ring]
      rfl
    split
    · exact .inr ⟨r, _, opened, solve_sound s r _ x, by rw [State.deliver_outline, counted]⟩
    · exact .inl (counted _ _)
  · exact .inl rfl

end Sys2Proof.Machine
end

section
/-! SUPPORT. Every step keeps the run state, what hangs on it, and the profile slots in agreement: each move does, as its
outline has it. -/

namespace Sys2Proof.Machine

/-! ### The run state -/

/-- `State.RunCoherent`, read off the outline. -/
structure Outline.RunCoherent (o : Outline) : Prop where
  ring : o.ring = .inactive ↔ o.ctrl.run ≠ .running
  timing : o.timing = true ↔ o.ctrl.run = .running
  alert : o.tracker.alert = true ↔ o.ctrl.run = .running ∧ o.tracker.table ≠ []
  faultRecord : o.ctrl.faultRecord.isSome = true ↔ o.ctrl.run = .fault
  atPause : o.ctrl.chainageAtPause.isSome = true ↔ o.ctrl.run = .paused
  noFix : o.ctrl.run = .idle ∨ o.ctrl.run = .fault → o.fix = none
  noTable : o.ctrl.run = .idle ∨ o.ctrl.run = .fault → o.tracker.table = []

theorem Assembler.outline_eq_inactive_iff (a : Assembler) : a.outline = .inactive ↔ a = .inactive := by
  cases a <;> simp [Assembler.outline]

theorem State.runCoherent_iff (s : State) : s.RunCoherent ↔ s.outline.RunCoherent := by
  have ring : s.outline.ring = .inactive ↔ s.ring.asm = .inactive := s.ring.asm.outline_eq_inactive_iff
  exact ⟨fun ⟨a, b, c, d, e, f, g⟩ => ⟨ring.trans a, b, c, d, e, f, g⟩,
    fun ⟨a, b, c, d, e, f, g⟩ => ⟨ring.symm.trans a, b, c, d, e, f, g⟩⟩

namespace Outline.RunCoherent

variable {o o' : Outline}

/-- What leaves the run state and what hangs on it alone keeps the agreement. -/
theorem of_same (h : o.RunCoherent) (ctrl : o'.ctrl = o.ctrl) (ring : o'.ring = o.ring) (timing : o'.timing = o.timing)
    (alert : o'.tracker.alert = o.tracker.alert) (table : o'.tracker.table = o.tracker.table) (fix : o'.fix = o.fix) :
    o'.RunCoherent := by
  obtain ⟨a, b, c, d, e, f, g⟩ := h
  constructor <;> simpa only [ctrl, ring, timing, alert, table, fix]

/-- In RUNNING: the Ring Assembler is not INACTIVE and the timer runs (R6, R14). -/
theorem of_running (run : o.ctrl.run = .running) (ring : o.ring ≠ .inactive) (timing : o.timing = true)
    (alert : o.tracker.alert = !o.tracker.table.isEmpty) (noRecord : o.ctrl.faultRecord = none)
    (noPause : o.ctrl.chainageAtPause = none) : o.RunCoherent := by
  constructor <;> simp [run, ring, timing, alert, noRecord, noPause]

/-- Outside RUNNING: the Ring Assembler is INACTIVE, the timer stopped and ALERT off (R6, R14, R85). -/
theorem of_stopped (run : o.ctrl.run ≠ .running) (ring : o.ring = .inactive) (timing : o.timing = false)
    (alert : o.tracker.alert = false) (faultRecord : o.ctrl.faultRecord.isSome = true ↔ o.ctrl.run = .fault)
    (atPause : o.ctrl.chainageAtPause.isSome = true ↔ o.ctrl.run = .paused)
    (noFix : o.ctrl.run = .idle ∨ o.ctrl.run = .fault → o.fix = none)
    (noTable : o.ctrl.run = .idle ∨ o.ctrl.run = .fault → o.tracker.table = []) : o.RunCoherent := by
  refine ⟨?_, ?_, ?_, faultRecord, atPause, noFix, noTable⟩ <;> simp [run, ring, timing, alert]

/-- Outside RUNNING the Ring Assembler is INACTIVE, the timer stopped and ALERT off. -/
theorem stopped (h : o.RunCoherent) (run : o.ctrl.run ≠ .running) :
    o.ring = .inactive ∧ o.timing = false ∧ o.tracker.alert = false := by
  refine ⟨h.ring.2 run, Bool.eq_false_iff.2 fun t => run (h.timing.1 t), Bool.eq_false_iff.2 fun t => run (h.alert.1 t).1⟩

theorem running_of_ring (h : o.RunCoherent) (ring : o.ring ≠ .inactive) : o.ctrl.run = .running := by
  by_contra run
  exact ring (h.ring.2 run)

theorem timing_of_running (h : o.RunCoherent) (run : o.ctrl.run = .running) : o.timing = true := h.timing.2 run

theorem alert_of_running (h : o.RunCoherent) (run : o.ctrl.run = .running) :
    o.tracker.alert = !o.tracker.table.isEmpty := by
  have alert := h.alert
  simp only [run, true_and] at alert
  rw [Bool.eq_iff_iff, alert]
  simp

theorem noRecord (h : o.RunCoherent) (run : o.ctrl.run ≠ .fault) : o.ctrl.faultRecord = none := by
  have := h.faultRecord
  simpa [run] using this

theorem noPause (h : o.RunCoherent) (run : o.ctrl.run ≠ .paused) : o.ctrl.chainageAtPause = none := by
  have := h.atPause
  simpa [run] using this

/-- In RUNNING a ring may open or close and the table change with ALERT following it (R85). -/
theorem keeps_running (h : o.RunCoherent) (ctrl : o'.ctrl = o.ctrl) (active : o.ring ≠ .inactive)
    (ring : o'.ring ≠ .inactive) (timing : o'.timing = true) (alert : o'.tracker.alert = !o'.tracker.table.isEmpty) :
    o'.RunCoherent := by
  have run := h.running_of_ring active
  refine of_running (by rw [ctrl, run]) ring timing alert ?_ ?_ <;> rw [ctrl]
  · exact h.noRecord (by simp [run])
  · exact h.noPause (by simp [run])

/-- STOP and fault entry, from RUNNING or from a PAUSED run in agreement (R138, R140). -/
theorem ended {ctrl : RunController} (h : o.ctrl.run ≠ .running → o.RunCoherent)
    (ends : ctrl.run = .idle ∨ ctrl.run = .fault) (faultRecord : ctrl.faultRecord.isSome = true ↔ ctrl.run = .fault)
    (noPause : ctrl.chainageAtPause = none) : (o.ended ctrl).RunCoherent := by
  have notRunning : ctrl.run ≠ .running := by rcases ends with h | h <;> simp [h]
  have notPaused : ctrl.run ≠ .paused := by rcases ends with h | h <;> simp [h]
  have atPause : ctrl.chainageAtPause.isSome = true ↔ ctrl.run = .paused := by simp [noPause, notPaused]
  unfold Outline.ended
  dsimp only
  split
  · exact of_stopped notRunning rfl rfl rfl faultRecord atPause (fun _ => rfl) fun _ => rfl
  · next run =>
    obtain ⟨ring, timing, alert⟩ := (h run).stopped run
    exact of_stopped notRunning ring timing alert faultRecord atPause (fun _ => rfl) fun _ => rfl

theorem faulted {x : FaultRecord} (h : o.ctrl.run ≠ .running → o.RunCoherent) : (o.faulted x).RunCoherent :=
  ended h (.inr rfl) (by simp) rfl

end Outline.RunCoherent

/-- The stall timer's expiry in RUNNING ends the run (R14, R140). -/
theorem State.stalled_outline (s : State) (run : s.ctrl.run = .running) : ∃ x,
    (((Work.of s).modify fun s => s.withRing { s.ring with stall := none }).raise .headStall).settle.st.outline =
      ({ s.outline with timing := false } : Outline).faulted x := by
  set w := (Work.of s).modify fun s => s.withRing { s.ring with stall := none } with hw
  have raised : (w.raise .headStall).st.outline = { s.outline with timing := false } :=
    (w.raise_reports .headStall).outline
  have fatal : (w.raise .headStall).fatal = some .headStall := Work.raise_fatal rfl (.inl run) rfl
  have still : (w.raise .headStall).st.ctrl.run = .running :=
    (congrArg (fun o : Outline => o.ctrl.run) raised).trans run
  rcases (w.raise .headStall).settle_outline with ⟨-, none | ended⟩ | ⟨-, x, settled⟩
  · rw [fatal] at none
    cases none
  · exact absurd (.inl still) ended
  · exact ⟨x, by rw [settled, raised]⟩

theorem State.segmentSent_outline_run (s : State) (k : Fin 3) : ∃ slots order,
    (s.segmentSent k).outline = { s.outline with slots := slots, order := order } := by
  unfold State.segmentSent
  split
  · split <;> exact ⟨_, _, rfl⟩
  · exact ⟨_, _, rfl⟩

theorem State.choose_outline (s : State) : ∃ sending, s.choose.outline = { s.outline with sending := sending } := by
  unfold State.choose
  split <;> exact ⟨_, rfl⟩

theorem State.asm_outline_of_opened {s : State} {r : RingContext} (h : s.ring.asm = .opened r) :
    s.outline.ring = .opened r.profileSlot := by
  change s.ring.asm.outline = _
  rw [h]
  rfl

theorem State.asm_outline_of_waiting {s : State} (h : s.ring.asm = .waiting) : s.outline.ring = .waiting := by
  change s.ring.asm.outline = _
  rw [h]
  rfl

theorem State.reset_outline_runCoherent : State.reset.outline.RunCoherent :=
  .of_stopped nofun rfl rfl rfl (by decide) (by decide) (fun _ => rfl) fun _ => rfl

/-- Every move keeps the agreement of the run state. -/
theorem State.Move.runCoherent {s t : State} (m : s.Move t) (h : s.RunCoherent) : t.RunCoherent := by
  rw [State.runCoherent_iff] at h ⊢
  cases m with
  | quiet same => rwa [same]
  | chosen =>
    obtain ⟨sending, outline⟩ := s.choose_outline
    rw [outline]
    exact h.of_same rfl rfl rfl rfl rfl rfl
  | ceased outline =>
    rw [outline]
    exact h.of_same rfl rfl rfl rfl rfl rfl
  | segmentSent sending segment =>
    obtain ⟨slots, order, outline⟩ := (s.withLink { s.link with tx := none }).segmentSent_outline_run _
    rw [outline]
    exact h.of_same rfl rfl rfl rfl rfl rfl
  | sampled _ raw x =>
    rcases s.takeSample_outline raw x with same | ⟨r, v, -, -, outline⟩
    · rwa [same]
    · rw [outline]
      exact h.of_same rfl rfl rfl rfl rfl rfl
  | @ringOpened w waiting =>
    obtain ⟨slot, slots, -, outline⟩ := w.openRing_outline
    have active : w.st.outline.ring ≠ .inactive := by rw [State.asm_outline_of_waiting waiting]; nofun
    rw [outline]
    exact h.keeps_running rfl active nofun rfl (h.alert_of_running (h.running_of_ring active))
  | @ringClosed w r opened =>
    have active : w.st.outline.ring ≠ .inactive := by rw [State.asm_outline_of_opened opened]; nofun
    have run := h.running_of_ring active
    rcases w.closeRing_outline opened with outline | ⟨slots, order, -, outline⟩ <;> rw [outline]
    · exact h.keeps_running rfl active nofun (h.timing_of_running run) (h.alert_of_running run)
    · exact h.keeps_running rfl active nofun (h.timing_of_running run) rfl
  | @fixPlaced w run f =>
    rw [w.placeFix_outline]
    refine ⟨h.ring, h.timing, h.alert, h.faultRecord, h.atPause, fun ends => ?_, h.noTable⟩
    have ends : w.st.ctrl.run = .idle ∨ w.st.ctrl.run = .fault := ends
    rcases run with run | run <;> simp [run] at ends
  | settled w =>
    rcases w.settle_outline with ⟨same, -⟩ | ⟨-, x, outline⟩
    · rwa [same]
    · rw [outline]
      exact .faulted fun _ => h
  | stalled timing =>
    have run : s.ctrl.run = .running := h.timing.1 timing
    obtain ⟨x, outline⟩ := s.stalled_outline run
    rw [outline]
    exact .faulted fun notRunning => absurd run notRunning
  | @started w run v =>
    obtain ⟨values, -, outline⟩ := w.startAt_outline v
    have idle : w.st.outline.ctrl.run = .idle := run
    rw [outline]
    exact .of_running rfl nofun rfl (h.stopped (by simp [idle])).2.2 (h.noRecord (by simp [idle])) rfl
  | @paused w run =>
    obtain ⟨c, outline⟩ := w.pauseRun_outline
    have noRecord := h.noRecord (by rw [show w.st.outline.ctrl.run = .running from run]; nofun)
    rw [outline]
    exact .of_stopped nofun rfl rfl rfl (by simp [noRecord]) (by simp) nofun nofun
  | @resumed w run =>
    have noRecord := h.noRecord (by rw [show w.st.outline.ctrl.run = .paused from run]; nofun)
    rw [Work.modify_st, State.resumeRun_outline]
    rcases w.gapClose_outline with outline | outline <;> rw [outline] <;>
      exact .of_running rfl nofun rfl rfl noRecord rfl
  | @stopped w run =>
    have noRecord := h.noRecord (by
      have run : w.st.outline.ctrl.run = .running ∨ w.st.outline.ctrl.run = .paused := run
      rcases run with run | run <;> simp [run])
    rw [w.stopRun_outline]
    exact .ended (fun _ => h) (.inl rfl) (by simp [noRecord]) rfl
  | faultCleared run =>
    have run : s.outline.ctrl.run = .fault := run
    obtain ⟨ring, timing, alert⟩ := h.stopped (by simp [run])
    exact .of_stopped nofun ring timing alert (by simp [State.outline])
      (by simpa [State.outline] using h.noPause (by simp [run])) (fun _ => h.noFix (.inr run)) fun _ => h.noTable (.inr run)
  | reset =>
    obtain ⟨values, -, outline⟩ := s.afterReset_outline
    rw [outline]
    exact State.reset_outline_runCoherent.of_same rfl rfl rfl rfl rfl rfl
  | poweredOn => exact State.reset_outline_runCoherent

end Sys2Proof.Machine
end

section
/-! SUPPORT. Every step keeps the profile slots in agreement with the open ring and with the order of transmission. -/

namespace Sys2Proof.Machine

theorem getElem_set_fin {α : Type} {n : Nat} (v : Vector α n) (i j : Fin n) (x : α) :
    (v.set i.val x)[j] = if i = j then x else v[j] := by
  simp [Fin.getElem_fin, Vector.getElem_set, Fin.ext_iff]

/-! ### One slot -/

/-- Whether a slot is FILLING. -/
def ProfileSlot.isFilling : ProfileSlot → Bool
  | .filling _ _ _ => true
  | _ => false

/-- Whether a slot is SENDING. -/
def ProfileSlot.isSending : ProfileSlot → Bool
  | .sending _ => true
  | _ => false

/-- The points a slot holds. -/
def ProfileSlot.points : ProfileSlot → List Point
  | .free => []
  | .filling points _ _ => points
  | .ready p => p.points
  | .sending p => p.points

theorem ProfileSlot.isFilling_iff (x : ProfileSlot) :
    x.isFilling = true ↔ ∃ points n truncated, x = .filling points n truncated := by
  cases x <;> simp [ProfileSlot.isFilling]

/-- Slot `k` agrees with the open ring and with the order of transmission (R159, R160, R161). -/
structure ProfileSlot.Fits (x : ProfileSlot) (ring : RingOutline) (order : List (Fin 3)) (k : Fin 3) : Prop where
  filling : x.isFilling = true ↔ ring = .opened (some k)
  ready : x.profile.isSome = true ↔ k ∈ order
  first : x.isSending = true → order.head? = some k
  points : x.points.length ≤ Config.maxPoints

/-- `State.ProfilesCoherent`, read off the outline. -/
structure Outline.Profiles (o : Outline) : Prop where
  fits : ∀ k : Fin 3, o.slots[k].Fits o.ring o.order k
  once : o.order.Nodup
  sent : ∀ k : Fin 3, o.sending = some (.segment k) → o.order.head? = some k

theorem Assembler.outline_eq_opened_iff (a : Assembler) (k : Option (Fin 3)) :
    a.outline = .opened k ↔ ∃ r, a = .opened r ∧ r.profileSlot = k := by
  cases a <;> simp [Assembler.outline]

theorem State.profilesCoherent_iff (s : State) : s.ProfilesCoherent ↔ s.outline.Profiles := by
  have ring : ∀ k, s.outline.ring = .opened (some k) ↔ ∃ r, s.ring.asm = .opened r ∧ r.profileSlot = some k :=
    fun k => s.ring.asm.outline_eq_opened_iff _
  have sending : ∀ k, s.outline.sending = some (.segment k) ↔ ∃ x, s.link.tx = some x ∧ x.source = .segment k :=
    fun k => Option.map_eq_some_iff
  constructor
  · intro h
    refine ⟨fun k => ⟨?_, (h.ready k).symm, ?_, ?_⟩, h.once, fun k segment => ?_⟩
    · rw [ring, ProfileSlot.isFilling_iff]
      exact h.filling k
    · intro isSending
      change s.link.slots[k].isSending = true at isSending
      match slot : s.link.slots[k] with
      | .sending p => exact h.first k p slot
      | .free | .filling _ _ _ | .ready _ => rw [slot] at isSending; cases isSending
    · obtain ⟨filling, profile⟩ := h.points k
      change s.link.slots[k].points.length ≤ _
      match slot : s.link.slots[k] with
      | .free => exact Nat.zero_le _
      | .filling points n truncated => exact filling points n truncated slot
      | .ready p | .sending p => exact profile p (by rw [slot]; rfl)
    · obtain ⟨x, tx, source⟩ := (sending k).1 segment
      exact h.sent x k tx source
  · intro h
    refine ⟨fun k => ?_, h.once, fun k => (h.fits k).ready.symm, fun k p slot => ?_, fun x k tx source => ?_, fun k => ?_⟩
    · rw [← ring, ← ProfileSlot.isFilling_iff]
      exact (h.fits k).filling
    · exact (h.fits k).first (by rw [show s.outline.slots[k] = .sending p from slot]; rfl)
    · exact h.sent k ((sending k).2 ⟨x, tx, source⟩)
    · have points : s.link.slots[k].points.length ≤ _ := (h.fits k).points
      refine ⟨fun ps n truncated slot => ?_, fun p profile => ?_⟩
      · rwa [slot] at points
      · match slot : s.link.slots[k] with
        | .free | .filling _ _ _ => rw [slot] at profile; cases profile
        | .ready q | .sending q =>
          rw [slot] at profile points
          cases profile
          exact points

namespace ProfileSlot.Fits

variable {x y : ProfileSlot} {ring ring' : RingOutline} {order : List (Fin 3)} {k : Fin 3}

/-- With one slot replaced, the slots agree where that slot does and the others do. -/
theorem set {slots : Vector ProfileSlot 3} (new : x.Fits ring order k)
    (others : ∀ j, j ≠ k → slots[j].Fits ring order j) (j : Fin 3) : (slots.set k.val x)[j].Fits ring order j := by
  rw [getElem_set_fin]
  split
  · next same => exact same ▸ new
  · next other => exact others j (Ne.symm other)

/-- A FREE slot agrees with a ring that is not its own and an order without it. -/
theorem free (other : ring ≠ .opened (some k)) (absent : k ∉ order) : ProfileSlot.free.Fits ring order k where
  filling := by simp [isFilling, other]
  ready := by simp [profile, absent]
  first := nofun
  points := Nat.zero_le _

/-- A slot agrees with another ring's opening as long as neither is its own. -/
theorem of_ring (h : x.Fits ring order k) (own : ring ≠ .opened (some k)) (own' : ring' ≠ .opened (some k)) :
    x.Fits ring' order k :=
  ⟨by simp [h.filling, own, own'], h.ready, h.first, h.points⟩

/-- A FILLING slot is in no order. -/
theorem not_mem (h : x.Fits ring order k) (filling : x.isFilling = true) : k ∉ order := by
  rw [← h.ready]
  cases x <;> simp_all [isFilling, profile]

theorem deliver (h : x.Fits ring order k) (stride : Nat) (p : Point) : (x.deliver stride p).Fits ring order k := by
  cases x with
  | filling points n truncated =>
    simp only [ProfileSlot.deliver]
    split_ifs with _ below
    · exact ⟨h.filling, h.ready, nofun, by simpa [ProfileSlot.points] using below⟩
    · exact ⟨h.filling, h.ready, nofun, h.points⟩
    · exact ⟨h.filling, h.ready, nofun, h.points⟩
  | free | ready _ | sending _ => exact h

end ProfileSlot.Fits

/-! ### The moves -/

namespace Outline.Profiles

variable {o o' : Outline}

theorem of_same (h : o.Profiles) (ring : o'.ring = o.ring) (slots : o'.slots = o.slots) (order : o'.order = o.order)
    (sending : o'.sending = o.sending) : o'.Profiles := by
  obtain ⟨fits, once, sent⟩ := h
  refine ⟨?_, ?_, ?_⟩ <;> simpa only [ring, slots, order, sending]

/-- The frame being sent may cease. -/
theorem ceased (h : o.Profiles) : ({ o with sending := none } : Outline).Profiles := ⟨h.fits, h.once, nofun⟩

/-- The open ring ends unsent: its slot is FREE (R161). -/
theorem freed (h : o.Profiles) (ring : ∀ k, o'.ring ≠ .opened (some k)) (slots : o'.slots = o.slotsFreed)
    (order : o'.order = o.order) (sending : o'.sending = o.sending) : o'.Profiles := by
  refine ⟨?_, order ▸ h.once, by rw [order, sending]; exact h.sent⟩
  rw [slots, order]
  unfold Outline.slotsFreed
  split
  · next k opened =>
    have filling : o.slots[k].isFilling = true := (h.fits k).filling.2 opened
    refine ProfileSlot.Fits.set (.free (ring k) ((h.fits k).not_mem filling)) fun j other => ?_
    refine (h.fits j).of_ring ?_ (ring j)
    rw [opened]
    exact fun same => other (by injection same with same; injection same with same; exact same.symm)
  · next none => exact fun j => (h.fits j).of_ring (fun opened => none j opened) (ring j)

/-- The Ring Assembler starts to wait or stops, with no ring open. -/
theorem of_ring (h : o.Profiles) (before : ∀ k, o.ring ≠ .opened (some k)) (ring : ∀ k, o'.ring ≠ .opened (some k))
    (slots : o'.slots = o.slots) (order : o'.order = o.order) (sending : o'.sending = o.sending) : o'.Profiles := by
  refine ⟨?_, order ▸ h.once, by rw [order, sending]; exact h.sent⟩
  rw [slots, order]
  exact fun j => (h.fits j).of_ring (before j) (ring j)

theorem left (h : o.Profiles) : o.left.Profiles := h.freed nofun rfl rfl rfl

theorem ended (h : o.Profiles) (ctrl : RunController) : (o.ended ctrl).Profiles := by
  unfold Outline.ended
  dsimp only
  split
  · exact .left (h.of_same rfl rfl rfl rfl)
  · exact h.of_same rfl rfl rfl rfl

/-- A ring opens, with a free slot claimed or none (R159). -/
theorem opened {slot : Option (Fin 3)} (h : o.Profiles) (waiting : o.ring = .waiting) (ring : o'.ring = .opened slot)
    (claim : SlotClaim o.slots slot o'.slots) (order : o'.order = o.order) (sending : o'.sending = o.sending) :
    o'.Profiles := by
  have before : ∀ k, o.ring ≠ .opened (some k) := by simp [waiting]
  refine ⟨?_, order ▸ h.once, by rw [order, sending]; exact h.sent⟩
  rw [order, ring]
  generalize o'.slots = slots at claim
  cases claim with
  | none => exact fun j => (h.fits j).of_ring (before j) nofun
  | @claimed k free =>
    have absent : k ∉ o.order := by
      rw [← (h.fits k).ready, free]
      nofun
    refine ProfileSlot.Fits.set ⟨by simp [ProfileSlot.isFilling], by simp [ProfileSlot.profile, absent], nofun,
      Nat.zero_le _⟩ fun j other => (h.fits j).of_ring (before j) ?_
    simpa using other.symm

/-- A ring closes ACCEPTED: its slot is READY, last in the order (R161). -/
theorem accepted {slot : Option (Fin 3)} (h : o.Profiles) (opened : o.ring = .opened slot) (ring : o'.ring = .waiting)
    (readies : SlotReady o.slots o.order slot o'.slots o'.order) (sending : o'.sending = o.sending) : o'.Profiles := by
  have after : ∀ k, o'.ring ≠ .opened (some k) := by simp [ring]
  generalize slots' : o'.slots = slots at readies
  generalize order' : o'.order = order at readies
  cases readies with
  | none => exact h.of_ring (by simp [opened]) after slots' order' sending
  | @unclaimed k unfilled =>
    obtain ⟨points, n, truncated, filling⟩ := (ProfileSlot.isFilling_iff _).1 ((h.fits k).filling.2 opened)
    exact absurd filling (unfilled points n truncated)
  | @ready k points n truncated p filling same =>
    have fits := h.fits k
    rw [filling] at fits
    have absent : k ∉ o.order := fits.not_mem rfl
    have first : ∀ j, o.order.head? = some j → (o.order ++ [k]).head? = some j := by
      intro j head
      rw [List.head?_append, head, Option.some_or]
    refine ⟨?_, ?_, ?_⟩
    · rw [slots', order']
      refine ProfileSlot.Fits.set ⟨by simp [ProfileSlot.isFilling, ring], by simp [ProfileSlot.profile], nofun, ?_⟩
        fun j other => ?_
      · exact (congrArg List.length same).trans_le fits.points
      · have fits := (h.fits j).of_ring (by simpa [opened] using other.symm) (after j)
        exact ⟨fits.filling, fits.ready.trans (by simp [other]), fun sending => first j (fits.first sending), fits.points⟩
    · rw [order']
      exact List.nodup_append.2 ⟨h.once, List.nodup_singleton k, by simp; exact fun a ha => by rintro rfl; exact absent ha⟩
    · rw [order', sending]
      exact fun j segment => first j (h.sent j segment)

theorem delivered (h : o.Profiles) (r : RingContext) (x : Solved) : (o.delivered r x).Profiles := by
  refine ⟨?_, h.once, h.sent⟩
  unfold Outline.delivered
  dsimp only
  split
  · next k _ => exact ProfileSlot.Fits.set ((h.fits k).deliver _ _) fun j _ => h.fits j
  · exact h.fits

end Outline.Profiles

/-- The next segment is of the profile made ready earliest (R157). -/
theorem State.nextFrame_segment {s : State} {x : Transmission} {k : Fin 3} (next : s.nextFrame = some x)
    (segment : x.source = .segment k) : s.link.readyOrder.head? = some k := by
  unfold State.nextFrame at next
  split at next
  · cases next; cases segment
  · split at next
    · cases next; cases segment
    · split at next
      · next j rest order =>
        obtain ⟨p, -, rfl⟩ := Option.map_eq_some_iff.1 next
        cases segment
        rw [order]
        rfl
      · cases next

theorem State.choose_profiles {s : State} (h : s.outline.Profiles) : s.choose.outline.Profiles := by
  unfold State.choose
  split
  · refine ⟨h.fits, h.once, fun k segment => ?_⟩
    obtain ⟨x, next, source⟩ := Option.map_eq_some_iff.1 segment
    exact State.nextFrame_segment next source
  · exact h

/-- A segment sent: the slot is FREE and out of the order, or SENDING with the same points (R162, R163). -/
theorem State.segmentSent_outline (s : State) (k : Fin 3) :
    (s.segmentSent k).outline = s.outline ∨
    (s.segmentSent k).outline = { s.outline with
      slots := s.outline.slots.set k.val .free, order := s.outline.order.filter (· ≠ k) } ∨
    ∃ p : Profile, p.points = s.outline.slots[k].points ∧
      (s.segmentSent k).outline = { s.outline with slots := s.outline.slots.set k.val (.sending p) } := by
  unfold State.segmentSent
  split
  · next p profile =>
    split
    · exact .inr (.inl rfl)
    · refine .inr (.inr ⟨{ p with nextSegment := p.nextSegment + 1 }, ?_, rfl⟩)
      change p.points = s.link.slots[k].points
      match slot : s.link.slots[k] with
      | .free | .filling _ _ _ => rw [slot] at profile; cases profile
      | .ready q | .sending q =>
        rw [slot] at profile
        cases profile
        rfl
  · exact .inl rfl

/-- A segment of the first profile of the order sent: it stays first, or leaves the order. -/
theorem State.segmentSent_profiles {s : State} {k : Fin 3} (h : s.outline.Profiles)
    (head : s.outline.order.head? = some k) (noFrame : s.outline.sending = none) :
    (s.segmentSent k).outline.Profiles := by
  have mem : k ∈ s.outline.order := List.mem_of_mem_head? head
  have notOwn : s.outline.ring ≠ .opened (some k) := fun opened =>
    (h.fits k).not_mem ((h.fits k).filling.2 opened) mem
  rcases s.segmentSent_outline k with same | ended | ⟨p, points, goesOn⟩
  · rwa [same]
  · rw [ended]
    refine ⟨?_, h.once.filter _, fun j segment => nomatch noFrame.symm.trans segment⟩
    refine ProfileSlot.Fits.set (.free notOwn (by simp)) fun j other => ?_
    refine ⟨(h.fits j).filling, (h.fits j).ready.trans (by simp [other]), fun sending => ?_, (h.fits j).points⟩
    have first := (h.fits j).first sending
    rw [head] at first
    exact absurd (Option.some.inj first).symm other
  · rw [goesOn]
    refine ⟨?_, h.once, fun j segment => nomatch noFrame.symm.trans segment⟩
    refine ProfileSlot.Fits.set ⟨by simp [ProfileSlot.isFilling, notOwn], by simp [ProfileSlot.profile, mem],
      fun _ => head, ?_⟩ fun j _ => h.fits j
    exact (congrArg List.length points).trans_le (h.fits k).points

theorem State.reset_outline_profiles : State.reset.outline.Profiles := by
  refine ⟨fun k => ?_, List.nodup_nil, nofun⟩
  have free : State.reset.outline.slots[k] = .free := Vector.getElem_replicate _
  rw [free]
  exact .free nofun List.not_mem_nil

/-- Every move keeps the profile slots in agreement, where the run state agrees. -/
theorem State.Move.profiles {s t : State} (m : s.Move t) (run : s.RunCoherent) (h : s.outline.Profiles) :
    t.outline.Profiles := by
  rw [State.runCoherent_iff] at run
  cases m with
  | quiet same => rwa [same]
  | chosen => exact s.choose_profiles h
  | ceased outline =>
    rw [outline]
    exact h.ceased
  | @segmentSent _ x k sending segment =>
    have source : s.outline.sending = some (.segment k) := Option.map_eq_some_iff.2 ⟨x, sending, segment⟩
    have head : s.outline.order.head? = some k := h.sent k source
    exact State.segmentSent_profiles (s := s.withLink { s.link with tx := none }) h.ceased head rfl
  | sampled _ raw x =>
    rcases s.takeSample_outline raw x with same | ⟨r, v, -, -, outline⟩
    · rwa [same]
    · rw [outline]
      exact h.delivered r v
  | @ringOpened w waiting =>
    obtain ⟨slot, slots, claim, outline⟩ := w.openRing_outline
    rw [outline]
    exact h.opened (State.asm_outline_of_waiting waiting) rfl claim rfl rfl
  | @ringClosed w r opened =>
    rcases w.closeRing_outline opened with outline | ⟨slots, order, readies, outline⟩ <;> rw [outline]
    · exact h.freed nofun rfl rfl rfl
    · exact h.accepted (State.asm_outline_of_opened opened) rfl readies rfl
  | @fixPlaced w _ f =>
    rw [w.placeFix_outline]
    exact h.of_same rfl rfl rfl rfl
  | settled w =>
    rcases w.settle_outline with ⟨same, -⟩ | ⟨-, x, outline⟩
    · rwa [same]
    · rw [outline]
      exact h.ended _
  | stalled timing =>
    obtain ⟨x, outline⟩ := s.stalled_outline (run.timing.1 timing)
    rw [outline]
    exact Outline.Profiles.ended (o := { s.outline with timing := false }) (h.of_same rfl rfl rfl rfl) _
  | @started w idle v =>
    obtain ⟨values, -, outline⟩ := w.startAt_outline v
    have inactive := (run.stopped (by rw [show w.st.outline.ctrl.run = .idle from idle]; nofun)).1
    rw [outline]
    exact h.of_ring (by simp [inactive]) nofun rfl rfl rfl
  | @paused w _ =>
    obtain ⟨c, outline⟩ := w.pauseRun_outline
    rw [outline]
    exact h.left.of_same rfl rfl rfl rfl
  | @resumed w paused =>
    have inactive := (run.stopped (by rw [show w.st.outline.ctrl.run = .paused from paused]; nofun)).1
    rw [Work.modify_st, State.resumeRun_outline]
    rcases w.gapClose_outline with outline | outline <;> rw [outline] <;>
      exact h.of_ring (by simp [inactive]) nofun rfl rfl rfl
  | @stopped w _ =>
    rw [w.stopRun_outline]
    exact h.ended _
  | faultCleared _ => exact h.of_same rfl rfl rfl rfl
  | reset =>
    obtain ⟨values, -, outline⟩ := s.afterReset_outline
    rw [outline]
    exact State.reset_outline_profiles.of_same rfl rfl rfl rfl
  | poweredOn => exact State.reset_outline_profiles

/-- Settles O8: every move of a step keeps the run state in agreement, and with it the profile slots. -/
theorem runCoherentKept : Obligations.RunCoherentKept := by
  refine ⟨fun s t run steps => (step_goes steps).keeps (fun _ _ m h => m.runCoherent h) run,
    fun s t run profiles steps => ?_⟩
  have kept := (step_goes steps).keeps (P := fun u => u.RunCoherent ∧ u.outline.Profiles)
    (fun _ _ m h => ⟨m.runCoherent h.1, m.profiles h.1 h.2⟩) ⟨run, s.profilesCoherent_iff.1 profiles⟩
  exact t.profilesCoherent_iff.2 kept.2

end Sys2Proof.Machine
end

section
/-! SUPPORT. The evaluation pass and the intrusion table: the counts of the sectors owned, the order of the table and the
owners (R57, R66 to R72, R76, R78). -/

namespace Sys2Proof.Machine

/-! ### How many sectors a number owns -/

/-- How many sectors an intrusion owns, as `SectorTracker.ownedBy` counts them. -/
def ownedIn (sectors : Vector Persistence 256) (n : Nat) : Nat :=
  ((List.finRange 256).filter fun i => sectors[i].owner = some n).length

theorem ownedIn_eq_sum (sectors : Vector Persistence 256) (n : Nat) :
    ownedIn sectors n = ∑ i : Sector, if sectors[i].owner = some n then 1 else 0 := by
  rw [← Finset.card_filter]
  rfl

/-- With one sector changed, its old owner counts one less and its new one, one more. -/
theorem ownedIn_set (sectors : Vector Persistence 256) (i : Sector) (x : Persistence) (n : Nat) :
    ownedIn (sectors.set i.val x) n + (if sectors[i].owner = some n then 1 else 0) =
      ownedIn sectors n + if x.owner = some n then 1 else 0 := by
  have others : ∑ j ∈ Finset.univ.erase i, (if (sectors.set i.val x)[j].owner = some n then 1 else 0) =
      ∑ j ∈ Finset.univ.erase i, if sectors[j].owner = some n then 1 else 0 :=
    Finset.sum_congr rfl fun j hj => by rw [getElem_set_fin, if_neg (Finset.ne_of_mem_erase hj).symm]
  rw [ownedIn_eq_sum, ownedIn_eq_sum, ← Finset.add_sum_erase _ _ (Finset.mem_univ i), others,
    ← Finset.add_sum_erase _ (fun j : Sector => if sectors[j].owner = some n then 1 else 0) (Finset.mem_univ i),
    getElem_set_fin, if_pos rfl]
  omega

/-- A sector that nothing owned given to `o`. -/
theorem ownedIn_given {sectors : Vector Persistence 256} {i : Sector} (free : sectors[i].owner = none) (o n : Nat) :
    ownedIn (sectors.set i.val (.confirmed o)) n = ownedIn sectors n + if n = o then 1 else 0 := by
  have count := ownedIn_set sectors i (.confirmed o) n
  rw [free, if_neg nofun] at count
  simpa [Persistence.owner, eq_comm] using count

/-- A sector of `o` released. -/
theorem ownedIn_released {sectors : Vector Persistence 256} {i : Sector} {o : Nat} (owner : sectors[i].owner = some o)
    (n : Nat) : ownedIn (sectors.set i.val .clear) n + (if n = o then 1 else 0) = ownedIn sectors n := by
  have count := ownedIn_set sectors i .clear n
  rw [owner] at count
  simpa [Persistence.owner, eq_comm] using count

/-- An owner after one sector changed is that sector's new one or an owner from before. -/
theorem owner_of_set {sectors : Vector Persistence 256} {i j : Sector} {x : Persistence} {n : Nat}
    (h : (sectors.set i.val x)[j].owner = some n) : j = i ∧ x.owner = some n ∨ sectors[j].owner = some n := by
  rw [getElem_set_fin] at h
  split at h
  · next same => exact .inl ⟨same.symm, h⟩
  · exact .inr h

theorem ownedIn_set_of_owner_eq {sectors : Vector Persistence 256} {i : Sector} {x : Persistence}
    (same : x.owner = sectors[i].owner) (n : Nat) : ownedIn (sectors.set i.val x) n = ownedIn sectors n := by
  have count := ownedIn_set sectors i x n
  rw [same] at count
  omega

theorem ownedIn_pos {sectors : Vector Persistence 256} {i : Sector} {n : Nat} (h : sectors[i].owner = some n) :
    1 ≤ ownedIn sectors n :=
  List.length_pos_of_mem (List.mem_filter.2 ⟨List.mem_finRange i, by simpa using h⟩)

theorem getElem_map_fin {α β : Type} {n : Nat} (v : Vector α n) (f : α → β) (i : Fin n) : (v.map f)[i] = f v[i] := by
  simp [Fin.getElem_fin]

/-- With the sectors of `v` CLEAR, the other numbers own what they did (R70). -/
theorem ownedIn_freed (sectors : Vector Persistence 256) {v n : Nat} (other : n ≠ v) :
    ownedIn (sectors.map fun x => if x.owner = some v then .clear else x) n = ownedIn sectors n := by
  rw [ownedIn_eq_sum, ownedIn_eq_sum]
  refine Finset.sum_congr rfl fun i _ => ?_
  rw [getElem_map_fin]
  split
  · next own => rw [own, if_neg nofun, if_neg fun same => other (Option.some.inj same).symm]
  · rfl

theorem Persistence.owner_reown (old new : Nat) (x : Persistence) :
    (x.reown old new).owner = x.owner.map fun n => if n = old then new else n := by
  cases x <;> rfl

/-- With `b`'s sectors given to `a`, the other numbers own what they did (R72). -/
theorem ownedIn_reown_other (sectors : Vector Persistence 256) {a b n : Nat} (na : n ≠ a) (nb : n ≠ b) :
    ownedIn (sectors.map (Persistence.reown b a)) n = ownedIn sectors n := by
  rw [ownedIn_eq_sum, ownedIn_eq_sum]
  refine Finset.sum_congr rfl fun i _ => ?_
  rw [getElem_map_fin, Persistence.owner_reown]
  cases sectors[i].owner with
  | none => rfl
  | some m =>
    by_cases own : m = b
    · simp [own, na.symm, nb.symm]
    · simp [own]

/-- With `b`'s sectors given to `a`, `a` owns what both did (R72). -/
theorem ownedIn_reown_survivor (sectors : Vector Persistence 256) {a b : Nat} (ne : a ≠ b) :
    ownedIn (sectors.map (Persistence.reown b a)) a = ownedIn sectors a + ownedIn sectors b := by
  rw [ownedIn_eq_sum, ownedIn_eq_sum, ownedIn_eq_sum, ← Finset.sum_add_distrib]
  refine Finset.sum_congr rfl fun i _ => ?_
  rw [getElem_map_fin, Persistence.owner_reown]
  cases sectors[i].owner with
  | none => rfl
  | some m =>
    by_cases own : m = b
    · simp [own, ne.symm]
    · simp [own]

/-! ### Strikes and peaks -/

namespace Intrusion

variable (x : Intrusion) (q c : Int) (angle ring : Nat)

@[simp] theorem strike_number : x.strike.number = x.number := by unfold strike; split <;> rfl
@[simp] theorem strike_owned : x.strike.owned = x.owned := by unfold strike; split <;> rfl
@[simp] theorem strike_first : x.strike.first = x.first := by unfold strike; split <;> rfl
@[simp] theorem strike_span : x.strike.span = x.span := by unfold strike; split <;> rfl
@[simp] theorem strike_peakClearance : x.strike.peakClearance = x.peakClearance := by unfold strike; split <;> rfl
@[simp] theorem lowerPeak_number : (x.lowerPeak q angle c ring).number = x.number := by unfold lowerPeak; split <;> rfl
@[simp] theorem lowerPeak_owned : (x.lowerPeak q angle c ring).owned = x.owned := by unfold lowerPeak; split <;> rfl
@[simp] theorem lowerPeak_first : (x.lowerPeak q angle c ring).first = x.first := by unfold lowerPeak; split <;> rfl
@[simp] theorem lowerPeak_span : (x.lowerPeak q angle c ring).span = x.span := by unfold lowerPeak; split <;> rfl

/-- A peak never rises (R73). -/
theorem lowerPeak_peakClearance_le : (x.lowerPeak q angle c ring).peakClearance ≤ x.peakClearance := by
  unfold lowerPeak
  split
  · next lower => exact lower.le
  · rfl

end Intrusion

/-! ### The order of the table and the owners, within a pass -/

/-- `SectorTracker.Owned` within a pass, where an entry may own no sector until the pass ends (R76). -/
structure Pass.Owned (p : Pass) : Prop where
  capacity : p.table.length ≤ Config.maxIntrusions
  ascending : (p.table.map Intrusion.number).Pairwise (· < ·)
  below : ∀ x ∈ p.table, x.number < p.counter
  counted : ∀ x ∈ p.table, x.owned = ownedIn p.sectors x.number
  owners : ∀ i : Sector, ∀ n, p.sectors[i].owner = some n → ∃ x ∈ p.table, x.number = n

namespace Pass

variable {p q : Pass} {e : PassEnv} {i : Sector}

theorem Owned.ascending' (h : p.Owned) : p.table.Pairwise fun x y => x.number < y.number :=
  List.pairwise_map.1 h.ascending

/-- The numbers of a table in ascending number are distinct. -/
theorem Owned.eq_of_number (h : p.Owned) {x y : Intrusion} (hx : x ∈ p.table) (hy : y ∈ p.table)
    (same : x.number = y.number) : x = y := by
  by_contra ne
  have nodup : (p.table.map Intrusion.number).Nodup := h.ascending.imp fun lt => Nat.ne_of_lt lt
  exact ne (List.inj_on_of_nodup_map nodup hx hy same)

/-- Entries gone and entries changed, their numbers kept: what is left is owned where the counts and owners still are. -/
theorem Owned.revised (h : p.Owned) {keep : Intrusion → Bool} {f : Intrusion → Intrusion}
    (table : q.table = (p.table.filter keep).map f) (counter : q.counter = p.counter)
    (number : ∀ x ∈ p.table, (f x).number = x.number)
    (counted : ∀ x ∈ p.table, keep x = true → (f x).owned = ownedIn q.sectors x.number)
    (owners : ∀ (j : Sector) n, q.sectors[j].owner = some n → ∃ x ∈ p.table, keep x = true ∧ x.number = n) :
    q.Owned := by
  have kept : ∀ y ∈ q.table, ∃ x ∈ p.table, keep x = true ∧ f x = y := by
    intro y hy
    rw [table] at hy
    obtain ⟨x, hx, rfl⟩ := List.mem_map.1 hy
    exact ⟨x, (List.mem_filter.1 hx).1, (List.mem_filter.1 hx).2, rfl⟩
  constructor
  · rw [table, List.length_map]
    exact (List.length_filter_le _ _).trans h.capacity
  · rw [table, List.pairwise_map, List.pairwise_map]
    refine (h.ascending'.filter keep).imp_of_mem fun {x y} hx hy lt => ?_
    rwa [number x (List.mem_filter.1 hx).1, number y (List.mem_filter.1 hy).1]
  · intro y hy
    obtain ⟨x, hx, -, rfl⟩ := kept y hy
    rw [number x hx, counter]
    exact h.below x hx
  · intro y hy
    obtain ⟨x, hx, hk, rfl⟩ := kept y hy
    rw [counted x hx hk, number x hx]
  · intro j n owner
    obtain ⟨x, hx, hk, rfl⟩ := owners j n owner
    refine ⟨f x, ?_, number x hx⟩
    rw [table]
    exact List.mem_map_of_mem (List.mem_filter.2 ⟨hx, hk⟩)

theorem table_modifyEntry (n : Nat) (f : Intrusion → Intrusion) :
    (p.modifyEntry n f).table = (p.table.filter fun _ => true).map fun x => if x.number = n then f x else x := by
  rw [List.filter_true]
  rfl

/-- A sector changed with its owner kept. -/
theorem Owned.setSector (h : p.Owned) {x : Persistence} (same : x.owner = p.sectors[i].owner) :
    (p.setSector i x).Owned := by
  refine ⟨h.capacity, h.ascending, h.below, fun y hy => ?_, fun j n owner => ?_⟩
  · exact (h.counted y hy).trans (ownedIn_set_of_owner_eq same _).symm
  · rcases owner_of_set owner with ⟨-, owner⟩ | owner
    · exact h.owners i n (same ▸ owner)
    · exact h.owners j n owner

/-- An entry changed, its number and its count kept. -/
theorem Owned.modifyEntry (h : p.Owned) {n : Nat} {f : Intrusion → Intrusion} (number : ∀ x, (f x).number = x.number)
    (owned : ∀ x, (f x).owned = x.owned) : (p.modifyEntry n f).Owned := by
  refine h.revised (table_modifyEntry n f) rfl (fun x _ => ?_) (fun x hx _ => ?_) fun j n owner => ?_
  · split <;> simp [number]
  · refine Eq.trans ?_ (h.counted x hx)
    split <;> simp [owned]
  · obtain ⟨x, hx, same⟩ := h.owners j n owner
    exact ⟨x, hx, rfl, same⟩

/-- An entry gains a sector that nothing owned. -/
theorem Owned.give (h : p.Owned) (free : p.sectors[i].owner = none) {c : Intrusion} (hc : c ∈ p.table)
    {f : Intrusion → Intrusion} (number : ∀ x, (f x).number = x.number) (owned : ∀ x, (f x).owned = x.owned + 1) :
    ((p.modifyEntry c.number f).setSector i (.confirmed c.number)).Owned := by
  refine h.revised (table_modifyEntry _ f) rfl (fun x _ => ?_) (fun x hx _ => ?_) fun j n owner => ?_
  · split <;> simp [number]
  · refine Eq.trans ?_ (ownedIn_given free c.number x.number).symm
    rw [← h.counted x hx]
    split <;> simp [owned]
  · rcases owner_of_set owner with ⟨-, owner⟩ | owner
    · exact ⟨c, hc, rfl, Option.some.inj owner⟩
    · obtain ⟨x, hx, same⟩ := h.owners j n owner
      exact ⟨x, hx, rfl, same⟩

/-- An entry loses a sector. -/
theorem Owned.release (h : p.Owned) {o : Nat} (owner : p.sectors[i].owner = some o) (note : Bool) :
    (p.release i o note).Owned := by
  refine h.revised (table_modifyEntry o _) rfl (fun x _ => ?_) (fun x hx _ => ?_) fun j n owned => ?_
  · split <;> rfl
  · have count : ownedIn (p.release i o note).sectors x.number + (if x.number = o then 1 else 0) = x.owned :=
      (ownedIn_released owner x.number).trans (h.counted x hx).symm
    split
    · next same =>
      rw [if_pos same] at count
      dsimp only
      omega
    · next other =>
      rw [if_neg other] at count
      exact count.symm
  · rcases owner_of_set owned with ⟨-, owned⟩ | owned
    · cases owned
    · obtain ⟨x, hx, same⟩ := h.owners j n owned
      exact ⟨x, hx, rfl, same⟩

theorem Owned.emit (h : p.Owned) (x : Emission) : (p.emit x).Owned := ⟨h.1, h.2, h.3, h.4, h.5⟩

theorem Owned.block (h : p.Owned) (free : p.sectors[i].owner = none) (k : Streak) : (p.block i k).Owned :=
  h.setSector free.symm

/-- The next number owns nothing yet. -/
theorem Owned.next_unowned (h : p.Owned) (j : Sector) : p.sectors[j].owner ≠ some p.counter := by
  intro owner
  obtain ⟨x, hx, same⟩ := h.owners j _ owner
  exact absurd (h.below x hx) (by omega)

theorem mem_openNew {k : Streak} {x : Intrusion} (hx : x ∈ (p.openNew e i k).table) :
    x ∈ p.table ∨ x.number = p.counter ∧ x.owned = 1 ∧ x.first = i ∧ x.span = 1 ∧ x.peakClearance = k.minClearance := by
  rcases List.mem_append.1 hx with hx | hx
  · exact .inl hx
  · rw [List.mem_singleton.1 hx]
    exact .inr ⟨rfl, rfl, rfl, rfl, rfl⟩

/-- An opening takes the next number for a sector that nothing owned (R67). -/
theorem Owned.openNew (h : p.Owned) (free : p.sectors[i].owner = none) (room : p.table.length < Config.maxIntrusions)
    (k : Streak) : (p.openNew e i k).Owned := by
  have unowned : ownedIn p.sectors p.counter = 0 := by
    rw [ownedIn, List.length_eq_zero_iff, List.filter_eq_nil_iff]
    exact fun j _ owner => h.next_unowned j (by simpa using owner)
  have count : ∀ n, ownedIn (p.openNew e i k).sectors n = ownedIn p.sectors n + if n = p.counter then 1 else 0 :=
    ownedIn_given free p.counter
  constructor
  · simpa [Pass.openNew, Pass.emit, Pass.setSector] using room
  · simp only [Pass.openNew, Pass.emit, Pass.setSector, List.map_append, List.pairwise_append]
    refine ⟨h.ascending, by simp, fun n hn m hm => ?_⟩
    obtain ⟨x, hx, rfl⟩ := List.mem_map.1 hn
    rw [List.mem_singleton.1 hm]
    exact h.below x hx
  · intro x hx
    change x.number < p.counter + 1
    rcases mem_openNew hx with hx | ⟨number, -⟩
    · exact Nat.lt_succ_of_lt (h.below x hx)
    · omega
  · intro x hx
    rw [count]
    rcases mem_openNew hx with hx | ⟨number, owned, -⟩
    · rw [← h.counted x hx, if_neg (Nat.ne_of_lt (h.below x hx))]
      rfl
    · rw [number, unowned, if_pos rfl, owned]
  · intro j n owner
    rcases owner_of_set owner with ⟨-, owner⟩ | owner
    · exact ⟨_, List.mem_append_right _ (List.mem_singleton_self _), Option.some.inj owner⟩
    · obtain ⟨x, hx, same⟩ := h.owners j n owner
      exact ⟨x, List.mem_append_left _ hx, same⟩

theorem owner_of_evict {v : Intrusion} {j : Sector} {n : Nat} (owner : (p.evict e v).sectors[j].owner = some n) :
    n ≠ v.number ∧ p.sectors[j].owner = some n := by
  simp only [Pass.evict] at owner
  rw [getElem_map_fin] at owner
  split at owner
  · cases owner
  · next notOwn => exact ⟨fun same => notOwn (by rw [owner, same]), owner⟩

/-- An eviction (R70). -/
theorem Owned.evict (h : p.Owned) (v : Intrusion) : (p.evict e v).Owned := by
  refine h.revised (f := id) (keep := fun x => x.number ≠ v.number) (by simp [Pass.evict]) rfl (fun _ _ => rfl)
    (fun x hx other => ?_) fun j n owner => ?_
  · exact (h.counted x hx).trans (ownedIn_freed _ (by simpa using other)).symm
  · obtain ⟨other, owner⟩ := owner_of_evict owner
    obtain ⟨x, hx, rfl⟩ := h.owners j n owner
    exact ⟨x, hx, by simpa using other, rfl⟩

theorem evict_room (h : p.Owned) {v : Intrusion} (hv : v ∈ p.table) :
    (p.evict e v).table.length < Config.maxIntrusions := by
  refine Nat.lt_of_lt_of_le ?_ h.capacity
  exact List.length_filter_lt_length_iff_exists.2 ⟨v, hv, by simp⟩

theorem evict_free (free : p.sectors[i].owner = none) (v : Intrusion) : (p.evict e v).sectors[i].owner = none :=
  Option.eq_none_iff_forall_ne_some.2 fun _ owner => nomatch free.symm.trans (owner_of_evict owner).2

theorem owner_of_merge {k : Streak} {a b : Intrusion} {j : Sector} {n : Nat}
    (owner : (p.merge e i k a b).sectors[j].owner = some n) :
    j = i ∧ n = a.number ∨ p.sectors[j].owner = some b.number ∧ n = a.number ∨
      p.sectors[j].owner = some n ∧ n ≠ b.number := by
  rcases owner_of_set owner with ⟨at_i, owner⟩ | owner
  · exact .inl ⟨at_i, (Option.some.inj owner).symm⟩
  · rw [getElem_map_fin, Persistence.owner_reown] at owner
    obtain ⟨m, owner, same⟩ := Option.map_eq_some_iff.1 owner
    split at same
    · next own => exact .inr (.inl ⟨own ▸ owner, same.symm⟩)
    · next other => exact .inr (.inr ⟨same ▸ owner, same ▸ other⟩)

/-- A merge: the survivor owns what both did and the sector (R72). -/
theorem Owned.merge (h : p.Owned) (free : p.sectors[i].owner = none) {a b : Intrusion} (ha : a ∈ p.table)
    (hb : b ∈ p.table) (ne : a.number ≠ b.number) (k : Streak) : (p.merge e i k a b).Owned := by
  have free' : (p.sectors.map (Persistence.reown b.number a.number))[i].owner = none := by
    rw [getElem_map_fin, Persistence.owner_reown, free]
    rfl
  have count := ownedIn_given free' a.number
  refine h.revised (keep := fun x => x.number ≠ b.number) rfl rfl (fun x hx => ?_) (fun x hx notB => ?_)
    fun j n owner => ?_
  · split
    · next same => simp [same]
    · rfl
  · refine Eq.trans ?_ (count x.number).symm
    split
    · next same =>
      rw [same, ownedIn_reown_survivor _ ne, ← h.counted a ha, ← h.counted b hb]
      simp
    · next other =>
      rw [ownedIn_reown_other _ other (by simpa using notB), ← h.counted x hx]
      rfl
  · rcases owner_of_merge owner with ⟨-, rfl⟩ | ⟨-, rfl⟩ | ⟨owner, notB⟩
    · exact ⟨a, ha, by simpa using ne, rfl⟩
    · exact ⟨a, ha, by simpa using ne, rfl⟩
    · obtain ⟨x, hx, rfl⟩ := h.owners j n owner
      exact ⟨x, hx, by simpa using notB, rfl⟩

theorem candidates_mem {x : Intrusion} (hx : x ∈ p.candidates i) : x ∈ p.table := (List.mem_filter.1 hx).1

/-- Of two candidates the first has the lower number. -/
theorem Owned.candidates_lt (h : p.Owned) {a b : Intrusion} {rest : List Intrusion}
    (found : p.candidates i = a :: b :: rest) : a.number < b.number := by
  have ordered : (p.candidates i).Pairwise fun x y => x.number < y.number := h.ascending'.filter _
  rw [found] at ordered
  exact List.rel_of_pairwise_cons ordered List.mem_cons_self

theorem Owned.join (h : p.Owned) (free : p.sectors[i].owner = none) {c : Intrusion} (hc : c ∈ p.table) (k : Streak) :
    (p.join i k c).Owned := by
  refine h.give free hc (fun x => ?_) fun x => ?_ <;> dsimp only <;> split_ifs <;> simp

theorem victimOf_mem {xs : List Intrusion} {v : Intrusion} (h : victimOf xs = some v) : v ∈ xs := by
  induction xs with
  | nil => cases h
  | cons x xs ih =>
    simp only [victimOf] at h
    split at h
    · cases h
      exact List.mem_cons_self
    · next found =>
      split at h <;> cases h
      · exact List.mem_cons_self
      · exact List.mem_cons_of_mem _ (ih found)

/-- An attempt with no candidate opens, evicts and opens, or blocks (R67 to R70). -/
theorem attemptAlone_cases (e : PassEnv) (i : Sector) (k : Streak) (p : Pass) :
    (p.table.length < Config.maxIntrusions ∧ p.attemptAlone e i k = p.openNew e i k) ∨
    (∃ v ∈ p.table, p.attemptAlone e i k = ((p.emit (.cause .tableFull)).evict e v).openNew e i k) ∨
    p.attemptAlone e i k = (p.block i k).emit (.cause .tableFull) ∨
    p.attemptAlone e i k = (p.emit (.cause .tableFull)).block i k := by
  unfold Pass.attemptAlone
  split
  · exact .inr (.inr (.inl rfl))
  · split
    · next room => exact .inl ⟨room, rfl⟩
    · dsimp only
      split
      · next v _ found =>
        split
        · exact .inr (.inl ⟨v, victimOf_mem found, rfl⟩)
        · exact .inr (.inr (.inr rfl))
      · exact .inr (.inr (.inr rfl))

theorem Owned.attempt (h : p.Owned) (free : p.sectors[i].owner = none) (k : Streak) : (p.attempt e i k).Owned := by
  unfold Pass.attempt
  split
  · rcases attemptAlone_cases e i k p with ⟨room, opens⟩ | ⟨v, hv, evicts⟩ | blocks | blocks
    · rw [opens]
      exact h.openNew free room k
    · rw [evicts]
      exact ((h.emit _).evict v).openNew (evict_free (p := p.emit _) free v) (evict_room (h.emit _) hv) k
    · rw [blocks]
      exact (h.block free k).emit _
    · rw [blocks]
      exact (h.emit _).block free k
  · next c found => exact h.join free (candidates_mem (i := i) (by simp [found])) k
  · next a b rest found =>
    exact h.merge free (candidates_mem (i := i) (by simp [found])) (candidates_mem (i := i) (by simp [found]))
      (h.candidates_lt found).ne k

theorem Owned.advance (h : p.Owned) (free : p.sectors[i].owner = none) (n : Nat) (k : Streak) :
    (p.advance e i n k).Owned := by
  unfold Pass.advance
  split
  · exact h.attempt free k
  · exact h.setSector free.symm

theorem Owned.strikeOwner (h : p.Owned) (o : Nat) (l : Least) : (p.strikeOwner e o l).Owned :=
  h.modifyEntry (by simp) (by simp)

theorem Owned.quiet (h : p.Owned) {o : Nat} (owner : p.sectors[i].owner = some o) (n : Nat) :
    (p.quiet e i n o).Owned := by
  unfold Pass.quiet
  split
  · exact h.release owner false
  · exact h.setSector owner.symm

/-- A step keeps the table in order and its owners (R59 to R65). -/
theorem Owned.step (h : p.Owned) (v : Verdict) (offer : Option Least) : (p.step e v offer i).Owned := by
  have infringe : ∀ l, (p.stepInfringe e i l).Owned := by
    intro l
    unfold Pass.stepInfringe
    split
    · next was => exact h.advance (by rw [was]; rfl) _ _
    · next was => exact h.advance (by rw [was]; rfl) _ _
    · next was => exact h.attempt (by rw [was]; rfl) _
    · exact h.strikeOwner _ _
    · next was => exact (h.strikeOwner _ _).setSector (congrArg Persistence.owner was).symm
  have quiet : (p.stepQuiet e i).Owned := by
    unfold Pass.stepQuiet
    split
    · exact h
    · next was => exact h.setSector (by rw [was]; rfl)
    · next was => exact h.setSector (by rw [was]; rfl)
    · next was => exact h.quiet (by rw [was]; rfl) _
    · next was => exact h.quiet (by rw [was]; rfl) _
  have unguarded : (p.stepUnguarded i).Owned := by
    unfold Pass.stepUnguarded
    split
    · exact h
    · next was => exact h.setSector (by rw [was]; rfl)
    · next was => exact h.setSector (by rw [was]; rfl)
    · next was => exact h.release (by rw [was]; rfl) _
    · next was => exact h.release (by rw [was]; rfl) _
  cases v with
  | infringe =>
    cases offer with
    | some l => exact infringe l
    | none => exact h
  | warn | clear => exact quiet
  | unseen => exact h
  | unguarded => exact unguarded

/-- What owns no sector is closed as the pass ends (R76). -/
theorem Owned.finish (h : p.Owned) : (p.finish e).Owned := by
  refine h.revised (f := id) (keep := fun x => x.owned ≠ 0) (by simp [Pass.finish]) rfl (fun _ _ => rfl)
    (fun x hx _ => h.counted x hx) fun j n owner => ?_
  obtain ⟨x, hx, rfl⟩ := h.owners j n owner
  have owns : 1 ≤ x.owned := (ownedIn_pos owner).trans_eq (h.counted x hx).symm
  exact ⟨x, hx, by simp; omega, rfl⟩

end Pass

/-! ### The evaluation pass -/

/-- What a pass keeps at its begin and in every step holds as it ends. -/
theorem State.evaluate_keeps {P : Pass → Prop} (s : State) (r : RingContext) (start : P s.passStart)
    (step : ∀ (p : Pass) (i : Sector), P p →
      P (p.step (s.passEnv r) (s.verdict r.slot i) s.tracker.accumulators[i].least i))
    (finish : ∀ p : Pass, P p → P (p.finish (s.passEnv r))) : P (s.evaluate r) := by
  refine finish _ ?_
  generalize List.finRange 256 = xs
  generalize s.passStart = p at start
  induction xs generalizing p with
  | nil => exact start
  | cons i xs ih => exact ih _ (step p i start)

theorem State.passStart_owned {s : State} (h : s.tracker.Owned) : s.passStart.Owned := by
  obtain ⟨capacity, ascending, below, counted, owners⟩ := h
  have mem : ∀ y ∈ s.passStart.table, ∃ x ∈ s.tracker.table, x.forNewRing = y := fun y hy => List.mem_map.1 hy
  constructor
  · simpa [State.passStart] using capacity
  · simpa [State.passStart, Function.comp_def, Intrusion.forNewRing] using ascending
  · intro y hy
    obtain ⟨x, hx, rfl⟩ := mem y hy
    exact below x hx
  · intro y hy
    obtain ⟨x, hx, rfl⟩ := mem y hy
    exact (counted x hx).2
  · intro j n owner
    obtain ⟨x, hx, same⟩ := owners j n owner
    exact ⟨x.forNewRing, List.mem_map_of_mem hx, same⟩

theorem State.evaluate_owned {s : State} (h : s.tracker.Owned) (r : RingContext) : (s.evaluate r).Owned :=
  s.evaluate_keeps r (State.passStart_owned h) (fun _ _ h => h.step _ _) fun _ h => h.finish

theorem State.evaluated_owned {s : State} (h : s.tracker.Owned) (r : RingContext) : (s.evaluated r).Owned := by
  obtain ⟨capacity, ascending, below, counted, owners⟩ := State.evaluate_owned h r
  refine ⟨capacity, ascending, below, fun x hx => ⟨?_, counted x hx⟩, owners⟩
  have owns : x.owned ≠ 0 := by simpa using (List.mem_filter.1 hx).2
  omega

end Sys2Proof.Machine
end

section
/-! SUPPORT. The evaluation pass and the spans of the intrusions: apart from each other, with every owned sector inside its
owner's (R57, R66 to R72, R78). -/

namespace Sys2Proof.Machine

/-! ### Spans -/

namespace Intrusion

variable {x y a b c : Intrusion} {i j : Sector}

theorem contains_iff : x.contains i = true ↔ (256 - x.first.val + i.val) % 256 < x.span := by
  simp [contains, Fin.sub_def]

/-- The length of a span is legal (R78). -/
def Legal (x : Intrusion) : Prop := 1 ≤ x.span ∧ x.span ≤ 256

/-- A span that neither contains a sector nor touches it. -/
def AwayFrom (x : Intrusion) (i : Sector) : Prop :=
  x.contains i = false ∧ x.contains (i + 1) = false ∧ x.contains (i - 1) = false

/-- Two spans that share no sector, with a free one between them. -/
def Apart (x y : Intrusion) : Prop := ∀ i : Sector, x.contains i = true → y.AwayFrom i

theorem Apart.symm (h : x.Apart y) : y.Apart x := by
  intro i hi
  simp only [AwayFrom, ← Bool.not_eq_true]
  refine ⟨fun at_i => ?_, fun next => ?_, fun before => ?_⟩
  · simp [(h i at_i).1] at hi
  · have := (h _ next).2.2
    rw [add_sub_cancel_right, hi] at this
    cases this
  · have := (h _ before).2.1
    rw [sub_add_cancel, hi] at this
    cases this

/-- The candidates of a sector are the spans that contain it or touch it (R66). -/
theorem not_near_iff (legal : x.Legal) :
    ¬ (x.contains i || x.beginsAfter i || x.endsBefore i) = true ↔ x.AwayFrom i := by
  obtain ⟨least, most⟩ := legal
  simp only [AwayFrom, ← Bool.not_eq_true, Bool.or_eq_true, contains_iff, beginsAfter, endsBefore, decide_eq_true_eq,
    Fin.ext_iff, Fin.val_add, Fin.val_sub, Fin.val_ofNat, Fin.val_one]
  have hi := i.isLt
  have hf := x.first.isLt
  omega

theorem near_of_touches (legal : x.Legal) (touches : ¬ x.AwayFrom i) :
    (x.contains i || x.beginsAfter i || x.endsBefore i) = true := by
  by_contra h
  exact touches ((not_near_iff legal).1 h)

/-- Two spans apart that both touch a sector: it lies between them, and it is all that does (R72). -/
theorem between (apart : a.Apart b) (ha : ¬ a.AwayFrom i) (hb : ¬ b.AwayFrom i) :
    (a.contains i = false ∧ b.contains i = false) ∧
    (a.contains (i - 1) = true ∧ b.contains (i + 1) = true ∧ a.contains (i + 1) = false ∧ b.contains (i - 1) = false ∨
     b.contains (i - 1) = true ∧ a.contains (i + 1) = true ∧ b.contains (i + 1) = false ∧ a.contains (i - 1) = false) := by
  have at_i : a.contains i = false := Bool.eq_false_iff.2 fun h => hb (apart i h)
  have at_i' : b.contains i = false := Bool.eq_false_iff.2 fun h => ha (apart.symm i h)
  have next : ¬ (a.contains (i + 1) = true ∧ b.contains (i + 1) = true) := fun h => by simp [(apart _ h.1).1] at h
  have before : ¬ (a.contains (i - 1) = true ∧ b.contains (i - 1) = true) := fun h => by simp [(apart _ h.1).1] at h
  refine ⟨⟨at_i, at_i'⟩, ?_⟩
  simp only [AwayFrom, at_i, at_i'] at ha hb
  revert ha hb next before
  cases a.contains (i + 1) <;> cases a.contains (i - 1) <;> cases b.contains (i + 1) <;> cases b.contains (i - 1) <;> simp

/-- A span apart from two that touch a sector from both sides is away from it. -/
theorem awayFrom_of_between (apart : a.Apart b) (ha : ¬ a.AwayFrom i) (hb : ¬ b.AwayFrom i) (xa : x.Apart a)
    (xb : x.Apart b) : x.AwayFrom i := by
  simp only [AwayFrom, ← Bool.not_eq_true]
  have shared : ∀ k, (a.contains k = true ∨ b.contains k = true) → ¬ x.contains k = true := by
    rintro k (h | h) hx
    · simp [(xa k hx).1] at h
    · simp [(xb k hx).1] at h
  refine ⟨fun h => ha (xa i h), shared _ ?_, shared _ ?_⟩
  all_goals rcases (between apart ha hb).2 with ⟨h, h', -⟩ | ⟨h, h', -⟩ <;> simp [h, h']

/-- The span that takes a sector in (R71). -/
def grown (i : Sector) (x : Intrusion) : Intrusion :=
  if x.contains i then x
  else if x.beginsAfter i then { x with first := i, span := x.span + 1 }
  else { x with span := x.span + 1 }

theorem grown_legal (legal : c.Legal) : (c.grown i).Legal := by
  unfold grown
  split
  · exact legal
  · next absent =>
    rw [contains_iff] at absent
    have := Nat.mod_lt (256 - c.first.val + i.val) (Nat.zero_lt_succ 255)
    split <;> exact ⟨Nat.le_add_left _ _, by dsimp only; omega⟩

theorem grown_contains (legal : c.Legal) (touches : ¬ c.AwayFrom i) :
    (c.grown i).contains j = true ↔ c.contains j = true ∨ j = i := by
  have near := near_of_touches legal touches
  obtain ⟨least, most⟩ := legal
  unfold grown
  split
  · next present => exact ⟨.inl, fun h => h.elim id fun same => same ▸ present⟩
  · next absent =>
    rw [Bool.eq_false_iff.2 absent, Bool.false_or, Bool.or_eq_true] at near
    simp only [contains_iff, beginsAfter, endsBefore, decide_eq_true_eq, Fin.ext_iff, Fin.val_add, Fin.val_ofNat,
      Fin.val_one] at *
    have hi := i.isLt
    have hj := j.isLt
    have hf := c.first.isLt
    split
    · next begins =>
      dsimp only
      omega
    · next begins =>
      dsimp only
      omega

/-- The span of two joined by a sector between them (R72). -/
def merged (i : Sector) (a b : Intrusion) : Intrusion :=
  { a with first := if a.endsBefore i then a.first else b.first, span := a.span + b.span + 1 }

/-- Two spans with only a sector between them, the one before it and the one after it. -/
theorem spans_joined {first : Sector} (la : a.Legal) (lb : b.Legal) (apart : a.Apart b)
    (ends : a.endsBefore i = true) (begins : b.beginsAfter i = true) (absent : a.contains i = false)
    (hf : first = a.first) :
    a.span + b.span + 1 ≤ 256 ∧
    ∀ j : Sector, (256 - first.val + j.val) % 256 < a.span + b.span + 1 ↔
      a.contains j = true ∨ b.contains j = true ∨ j = i := by
  obtain ⟨la, la'⟩ := la
  obtain ⟨lb, lb'⟩ := lb
  have own : a.contains a.first = true := by
    rw [contains_iff]
    have := a.first.isLt
    omega
  have other : ¬ b.contains a.first = true := by simp [(apart _ own).1]
  rw [← Bool.not_eq_true] at absent
  simp only [contains_iff, beginsAfter, endsBefore, decide_eq_true_eq, Fin.ext_iff, Fin.val_add, Fin.val_ofNat,
    Fin.val_one] at *
  have hi := i.isLt
  have ha := a.first.isLt
  have hb := b.first.isLt
  refine ⟨by omega, fun j => ?_⟩
  have hj := j.isLt
  omega

/-- What touches a sector from one side alone begins after it or ends before it. -/
theorem beginsAfter_of_next (legal : c.Legal) (absent : c.contains i = false) (next : c.contains (i + 1) = true) :
    c.beginsAfter i = true := by
  obtain ⟨least, most⟩ := legal
  rw [← Bool.not_eq_true] at absent
  simp only [contains_iff, beginsAfter, decide_eq_true_eq, Fin.ext_iff, Fin.val_add, Fin.val_one] at *
  have hi := i.isLt
  have hf := c.first.isLt
  omega

theorem endsBefore_iff (legal : c.Legal) (absent : c.contains i = false) :
    c.endsBefore i = true ↔ c.contains (i - 1) = true := by
  obtain ⟨least, most⟩ := legal
  rw [← Bool.not_eq_true] at absent
  simp only [contains_iff, endsBefore, decide_eq_true_eq, Fin.ext_iff, Fin.val_add, Fin.val_sub, Fin.val_ofNat,
    Fin.val_one] at *
  have hi := i.isLt
  have hf := c.first.isLt
  omega

theorem merged_spec (la : a.Legal) (lb : b.Legal) (apart : a.Apart b) (ha : ¬ a.AwayFrom i) (hb : ¬ b.AwayFrom i) :
    (a.merged i b).Legal ∧
    ∀ j, (a.merged i b).contains j = true ↔ a.contains j = true ∨ b.contains j = true ∨ j = i := by
  obtain ⟨⟨absent, absent'⟩, ⟨before, next, -, -⟩ | ⟨before, next, -, notBefore⟩⟩ := between apart ha hb
  · have ends := (endsBefore_iff la absent).2 before
    obtain ⟨most, contains⟩ := spans_joined la lb apart ends (beginsAfter_of_next lb absent' next) absent
      (first := (a.merged i b).first) (by simp [merged, ends])
    exact ⟨⟨Nat.le_add_left _ _, most⟩, fun j => contains_iff.trans (contains j)⟩
  · have notEnds : a.endsBefore i = false := by
      rw [← Bool.not_eq_true, endsBefore_iff la absent, notBefore]
      nofun
    obtain ⟨most, contains⟩ := spans_joined lb la apart.symm ((endsBefore_iff lb absent').2 before)
      (beginsAfter_of_next la absent next) absent' (first := (a.merged i b).first) (by simp [merged, notEnds])
    have sum : (a.merged i b).span = b.span + a.span + 1 := congrArg (· + 1) (Nat.add_comm _ _)
    refine ⟨⟨Nat.le_add_left _ _, sum.trans_le most⟩, fun j => ?_⟩
    rw [contains_iff, sum, contains j, or_left_comm]

theorem contains_congr (first : x.first = y.first) (span : x.span = y.span) (i : Sector) : x.contains i = y.contains i := by
  rw [contains, contains, first, span]

/-- Two spans are as far apart as spans with the same sectors are. -/
theorem Apart.congr (h : a.Apart b) (hx : ∀ i, x.contains i = a.contains i) (hy : ∀ i, y.contains i = b.contains i) :
    x.Apart y := by
  intro i hi
  rw [hx] at hi
  simpa only [AwayFrom, hy] using h i hi

end Intrusion

/-! ### The spans within a pass -/

/-- `SectorTracker.Spans` within a pass. -/
structure Pass.Spans (p : Pass) : Prop where
  legal : ∀ x ∈ p.table, x.Legal
  apart : ∀ x ∈ p.table, ∀ y ∈ p.table, x.number ≠ y.number → x.Apart y
  inside : ∀ i : Sector, ∀ x ∈ p.table, p.sectors[i].owner = some x.number → x.contains i = true

/-- Every entry of `q` is one of `p` with its number and span kept. -/
def Pass.SpansFrom (p q : Pass) : Prop :=
  ∀ y ∈ q.table, ∃ x ∈ p.table, y.number = x.number ∧ y.first = x.first ∧ y.span = x.span

namespace Pass

variable {p q : Pass} {e : PassEnv} {i : Sector}

/-- Spans kept, with no owner anew. -/
theorem Spans.of_kept (h : p.Spans) (kept : p.SpansFrom q)
    (owners : ∀ (j : Sector) n, q.sectors[j].owner = some n → p.sectors[j].owner = some n) : q.Spans := by
  refine ⟨fun y hy => ?_, fun y hy y' hy' other => ?_, fun j y hy owner => ?_⟩
  · obtain ⟨x, hx, -, -, span⟩ := kept y hy
    have legal := h.legal x hx
    rwa [Intrusion.Legal, ← span] at legal
  · obtain ⟨x, hx, number, first, span⟩ := kept y hy
    obtain ⟨x', hx', number', first', span'⟩ := kept y' hy'
    exact (h.apart x hx x' hx' (by rwa [← number, ← number'])).congr (Intrusion.contains_congr first span)
      (Intrusion.contains_congr first' span')
  · obtain ⟨x, hx, number, first, span⟩ := kept y hy
    rw [Intrusion.contains_congr first span]
    exact h.inside j x hx (number ▸ owners j _ owner)

theorem SpansFrom.of_table (h : ∀ y ∈ q.table, y ∈ p.table) : p.SpansFrom q := fun y hy => ⟨y, h y hy, rfl, rfl, rfl⟩

theorem SpansFrom.modifyEntry {n : Nat} {f : Intrusion → Intrusion}
    (kept : ∀ x, (f x).number = x.number ∧ (f x).first = x.first ∧ (f x).span = x.span)
    (table : q.table = (p.modifyEntry n f).table) : p.SpansFrom q := by
  intro y hy
  rw [table] at hy
  obtain ⟨x, hx, rfl⟩ := List.mem_map.1 hy
  refine ⟨x, hx, ?_⟩
  split
  · exact kept x
  · exact ⟨rfl, rfl, rfl⟩

/-- A sector changed, to its old owner or to none. -/
theorem Spans.setSector (h : p.Spans) {x : Persistence} (owner : x.owner = p.sectors[i].owner ∨ x.owner = none) :
    (p.setSector i x).Spans := by
  refine h.of_kept (.of_table fun _ hy => hy) fun j n owned => ?_
  rcases owner_of_set owned with ⟨at_i, new⟩ | old
  · rcases owner with same | none
    · rw [at_i, ← same, new]
    · exact nomatch none.symm.trans new
  · exact old

theorem Spans.modifyEntry (h : p.Spans) {n : Nat} {f : Intrusion → Intrusion}
    (kept : ∀ x, (f x).number = x.number ∧ (f x).first = x.first ∧ (f x).span = x.span) : (p.modifyEntry n f).Spans :=
  h.of_kept (.modifyEntry kept rfl) fun _ _ owner => owner

theorem Spans.emit (h : p.Spans) (x : Emission) : (p.emit x).Spans := ⟨h.1, h.2, h.3⟩

theorem Spans.release (h : p.Spans) (o : Nat) (note : Bool) : (p.release i o note).Spans := by
  unfold Pass.release
  refine (h.modifyEntry ?_).setSector (.inr rfl)
  exact fun _ => ⟨rfl, rfl, rfl⟩

theorem Spans.strikeOwner (h : p.Spans) (o : Nat) (l : Least) : (p.strikeOwner e o l).Spans :=
  h.modifyEntry fun _ => ⟨by simp, by simp, by simp⟩

theorem Spans.block (h : p.Spans) (k : Streak) : (p.block i k).Spans := h.setSector (.inr rfl)

theorem Spans.evict (h : p.Spans) (v : Intrusion) : (p.evict e v).Spans :=
  h.of_kept (.of_table fun _ hy => (List.mem_filter.1 hy).1) fun _ _ owner => (owner_of_evict owner).2

theorem Spans.finish (h : p.Spans) : (p.finish e).Spans :=
  h.of_kept (.of_table fun _ hy => (List.mem_filter.1 hy).1) fun _ _ owner => owner

/-- An opening in a sector that every span is away from (R67). -/
theorem Spans.openNew (h : p.Spans) (owned : p.Owned) (away : ∀ x ∈ p.table, x.AwayFrom i) (k : Streak) :
    (p.openNew e i k).Spans := by
  have old : ∀ {x y : Intrusion}, x ∈ p.table → y.first = i → y.span = 1 → x.Apart y := by
    intro x y hx first span
    refine Intrusion.Apart.symm fun j hj => ?_
    have at_i : j = i := by
      rw [Intrusion.contains_iff, first, span] at hj
      have hi := i.isLt
      have hj' := j.isLt
      exact Fin.ext (by omega)
    exact at_i ▸ away x hx
  constructor
  · intro x hx
    rcases mem_openNew hx with hx | ⟨-, -, -, span, -⟩
    · exact h.legal x hx
    · simp [Intrusion.Legal, span]
  · intro x hx y hy other
    rcases mem_openNew hx with hx | ⟨number, -, first, span, -⟩ <;>
      rcases mem_openNew hy with hy | ⟨number', -, first', span', -⟩
    · exact h.apart x hx y hy other
    · exact old hx first' span'
    · exact (old hy first span).symm
    · exact absurd (number.trans number'.symm) other
  · intro j x hx owner
    rcases mem_openNew hx with hx | ⟨number, -, first, span, -⟩
    · rcases owner_of_set owner with ⟨-, owner⟩ | owner
      · exact absurd (owned.below x hx) (by rw [← Option.some.inj owner]; exact Nat.lt_irrefl _)
      · exact h.inside j x hx owner
    · rcases owner_of_set owner with ⟨rfl, -⟩ | owner
      · rw [Intrusion.contains_iff, first, span]
        have hj := j.isLt
        omega
      · exact absurd owner (by rw [number]; exact owned.next_unowned j)

/-- An entry that the sector joins: its span and the sector (R71). -/
theorem Spans.join (h : p.Spans) (owned : p.Owned) {c : Intrusion} (hc : c ∈ p.table) (touches : ¬ c.AwayFrom i)
    (away : ∀ x ∈ p.table, x.number ≠ c.number → x.AwayFrom i) (k : Streak) : (p.join i k c).Spans := by
  have entries : ∀ y ∈ (p.join i k c).table, y.number = c.number ∧ y.Legal ∧
      (∀ j, y.contains j = true ↔ c.contains j = true ∨ j = i) ∨ y ∈ p.table ∧ y.number ≠ c.number := by
    intro y hy
    obtain ⟨x, hx, rfl⟩ := List.mem_map.1 hy
    split
    · next same =>
      obtain rfl := owned.eq_of_number hx hc same
      have grows : ∀ z : Intrusion, z.first = (x.grown i).first → z.span = (x.grown i).span →
          z.Legal ∧ ∀ j, z.contains j = true ↔ x.contains j = true ∨ j = i := by
        intro z first span
        refine ⟨?_, fun j => ?_⟩
        · rw [Intrusion.Legal, span]
          exact Intrusion.grown_legal (h.legal x hc)
        · rw [Intrusion.contains_congr first span]
          exact Intrusion.grown_contains (h.legal x hc) touches
      refine .inl ⟨?_, grows _ ?_ ?_⟩ <;> simp only [Intrusion.grown] <;> split_ifs <;> simp
    · next other => exact .inr ⟨hx, other⟩
  have grownApart : ∀ {x y : Intrusion}, (∀ j, x.contains j = true ↔ c.contains j = true ∨ j = i) → y ∈ p.table →
      y.number ≠ c.number → x.Apart y := by
    intro x y contains hy other j hj
    rcases (contains j).1 hj with hj | rfl
    · exact h.apart c hc y hy other.symm j hj
    · exact away y hy other
  constructor
  · intro y hy
    rcases entries y hy with ⟨-, legal, -⟩ | ⟨hy, -⟩
    · exact legal
    · exact h.legal y hy
  · intro x hx y hy other
    rcases entries x hx with ⟨number, -, contains⟩ | ⟨hx, notC⟩ <;>
      rcases entries y hy with ⟨number', -, contains'⟩ | ⟨hy, notC'⟩
    · exact absurd (number.trans number'.symm) other
    · exact grownApart contains hy notC'
    · exact (grownApart contains' hx notC).symm
    · exact h.apart x hx y hy other
  · intro j y hy owner
    rcases entries y hy with ⟨number, -, contains⟩ | ⟨hy, notC⟩ <;>
      rcases owner_of_set owner with ⟨at_i, owner⟩ | owner
    · exact (contains j).2 (.inr at_i)
    · exact (contains j).2 (.inl (h.inside j c hc (number ▸ owner)))
    · exact absurd (Option.some.inj owner).symm notC
    · exact h.inside j y hy owner

/-- Two entries merged: their spans and the sector between (R72). -/
theorem Spans.merge (h : p.Spans) {a b : Intrusion} (ha : a ∈ p.table) (hb : b ∈ p.table)
    (ne : a.number ≠ b.number) (ta : ¬ a.AwayFrom i) (tb : ¬ b.AwayFrom i) (k : Streak) :
    (p.merge e i k a b).Spans := by
  have apart : a.Apart b := h.apart a ha b hb ne
  obtain ⟨legal, contains⟩ := Intrusion.merged_spec (h.legal a ha) (h.legal b hb) apart ta tb
  have entries : ∀ y ∈ (p.merge e i k a b).table,
      y.number = a.number ∧ y.first = (a.merged i b).first ∧ y.span = (a.merged i b).span ∨
      y ∈ p.table ∧ y.number ≠ a.number ∧ y.number ≠ b.number := by
    intro y hy
    obtain ⟨x, hx, rfl⟩ := List.mem_map.1 hy
    obtain ⟨hx, notB⟩ := List.mem_filter.1 hx
    split
    · exact .inl (by simp [Intrusion.merged])
    · next notA => exact .inr ⟨hx, notA, by simpa using notB⟩
  have mergedApart : ∀ {x y : Intrusion}, x.first = (a.merged i b).first → x.span = (a.merged i b).span →
      y ∈ p.table → y.number ≠ a.number → y.number ≠ b.number → x.Apart y := by
    intro x y first span hy notA notB j hj
    rw [Intrusion.contains_congr first span, contains] at hj
    rcases hj with hj | hj | rfl
    · exact h.apart a ha y hy notA.symm j hj
    · exact h.apart b hb y hy notB.symm j hj
    · exact Intrusion.awayFrom_of_between apart ta tb (h.apart y hy a ha notA) (h.apart y hy b hb notB)
  constructor
  · intro y hy
    rcases entries y hy with ⟨-, -, span⟩ | ⟨hy, -⟩
    · rwa [Intrusion.Legal, span]
    · exact h.legal y hy
  · intro x hx y hy other
    rcases entries x hx with ⟨number, first, span⟩ | ⟨hx, notA, notB⟩ <;>
      rcases entries y hy with ⟨number', first', span'⟩ | ⟨hy, notA', notB'⟩
    · exact absurd (number.trans number'.symm) other
    · exact mergedApart first span hy notA' notB'
    · exact (mergedApart first' span' hx notA notB).symm
    · exact h.apart x hx y hy other
  · intro j y hy owner
    rcases entries y hy with ⟨number, first, span⟩ | ⟨hy, notA, notB⟩
    · rw [Intrusion.contains_congr first span, contains]
      rcases owner_of_merge owner with ⟨at_i, -⟩ | ⟨owner, -⟩ | ⟨owner, -⟩
      · exact .inr (.inr at_i)
      · exact .inr (.inl (h.inside j b hb owner))
      · exact .inl (h.inside j a ha (number ▸ owner))
    · rcases owner_of_merge owner with ⟨-, same⟩ | ⟨-, same⟩ | ⟨owner, -⟩
      · exact absurd same notA
      · exact absurd same notA
      · exact h.inside j y hy owner

/-! ### The confirm attempt and the step -/

theorem Spans.mem_candidates (h : p.Spans) {x : Intrusion} (hx : x ∈ p.table) :
    x ∈ p.candidates i ↔ ¬ x.AwayFrom i := by
  rw [← Intrusion.not_near_iff (h.legal x hx), not_not, Pass.candidates, List.mem_filter, and_iff_right hx]

theorem Spans.away_of_not_candidate (h : p.Spans) {x : Intrusion} (hx : x ∈ p.table) (absent : x ∉ p.candidates i) :
    x.AwayFrom i := by
  rwa [h.mem_candidates hx, not_not] at absent

theorem Spans.touches_of_candidate (h : p.Spans) {x : Intrusion} (hx : x ∈ p.candidates i) : ¬ x.AwayFrom i :=
  (h.mem_candidates (candidates_mem hx)).1 hx

theorem Spans.attempt (h : p.Spans) (owned : p.Owned) (k : Streak) : (p.attempt e i k).Spans := by
  unfold Pass.attempt
  split
  · next none =>
    have away : ∀ x ∈ p.table, x.AwayFrom i := fun x hx => h.away_of_not_candidate hx (by simp [none])
    rcases attemptAlone_cases e i k p with ⟨-, opens⟩ | ⟨v, hv, evicts⟩ | blocks | blocks
    · rw [opens]
      exact h.openNew owned away k
    · rw [evicts]
      exact ((h.emit _).evict v).openNew ((owned.emit _).evict v) (fun x hx => away x (List.mem_filter.1 hx).1) k
    · rw [blocks]
      exact (h.block k).emit _
    · rw [blocks]
      exact (h.emit _).block k
  · next c found =>
    have hc : c ∈ p.candidates i := by simp [found]
    refine h.join owned (candidates_mem hc) (h.touches_of_candidate hc) (fun x hx other => ?_) k
    exact h.away_of_not_candidate hx (by rw [found, List.mem_singleton]; exact fun same => other (by rw [same]))
  · next a b rest found =>
    have ha : a ∈ p.candidates i := by simp [found]
    have hb : b ∈ p.candidates i := by simp [found]
    exact h.merge (candidates_mem ha) (candidates_mem hb) (owned.candidates_lt found).ne
      (h.touches_of_candidate ha) (h.touches_of_candidate hb) k

theorem Spans.advance (h : p.Spans) (owned : p.Owned) (n : Nat) (k : Streak) : (p.advance e i n k).Spans := by
  unfold Pass.advance
  split
  · exact h.attempt owned k
  · exact h.setSector (.inr rfl)

theorem Spans.quiet (h : p.Spans) {o : Nat} (owner : p.sectors[i].owner = some o) (n : Nat) :
    (p.quiet e i n o).Spans := by
  unfold Pass.quiet
  split
  · exact h.release o false
  · exact h.setSector (.inl owner.symm)

/-- A step keeps the spans apart and the owned sectors inside (R59 to R65). -/
theorem Spans.step (h : p.Spans) (owned : p.Owned) (v : Verdict) (offer : Option Least) :
    (p.step e v offer i).Spans := by
  have infringe : ∀ l, (p.stepInfringe e i l).Spans := by
    intro l
    unfold Pass.stepInfringe
    split
    · exact h.advance owned _ _
    · exact h.advance owned _ _
    · exact h.attempt owned _
    · exact h.strikeOwner _ _
    · next was => exact (h.strikeOwner _ _).setSector (.inl (congrArg Persistence.owner was).symm)
  have quiet : (p.stepQuiet e i).Spans := by
    unfold Pass.stepQuiet
    split
    · exact h
    · exact h.setSector (.inr rfl)
    · exact h.setSector (.inr rfl)
    · next was => exact h.quiet (by rw [was]; rfl) _
    · next was => exact h.quiet (by rw [was]; rfl) _
  have unguarded : (p.stepUnguarded i).Spans := by
    unfold Pass.stepUnguarded
    split
    · exact h
    · exact h.setSector (.inr rfl)
    · exact h.setSector (.inr rfl)
    · exact h.release _ _
    · exact h.release _ _
  cases v with
  | infringe =>
    cases offer with
    | some l => exact infringe l
    | none => exact h
  | warn | clear => exact quiet
  | unseen => exact h
  | unguarded => exact unguarded

end Pass

/-! ### The evaluation pass -/

/-- Spans in the order of an ascending table, and spans of two numbers. -/
theorem pairwise_apart_iff {table : List Intrusion} (ascending : (table.map Intrusion.number).Pairwise (· < ·)) :
    (table.Pairwise fun x y => x.Apart y) ↔ ∀ x ∈ table, ∀ y ∈ table, x.number ≠ y.number → x.Apart y := by
  constructor
  · intro apart x hx y hy other
    have symm : Std.Symm fun x y : Intrusion => x.Apart y := ⟨fun _ _ h => h.symm⟩
    exact apart.forall hx hy fun same => other (by rw [same])
  · intro apart
    exact (List.pairwise_map.1 ascending).imp_of_mem fun hx hy lt => apart _ hx _ hy (Nat.ne_of_lt lt)

theorem State.passStart_spans {s : State} (owned : s.tracker.Owned) (h : s.tracker.Spans) : s.passStart.Spans := by
  have start : Pass.Spans { sectors := s.tracker.sectors, table := s.tracker.table, counter := 0, out := [] } :=
    ⟨h.lengths, (pairwise_apart_iff owned.ascending).1 h.apart, h.inside⟩
  refine start.of_kept (fun y hy => ?_) fun _ _ owner => owner
  obtain ⟨x, hx, rfl⟩ := List.mem_map.1 hy
  exact ⟨x, hx, rfl, rfl, rfl⟩

theorem State.evaluated_spans {s : State} (owned : s.tracker.Owned) (h : s.tracker.Spans) (r : RingContext) :
    (s.evaluated r).Spans := by
  obtain ⟨owned', legal, apart, inside⟩ := s.evaluate_keeps r (P := fun p => p.Owned ∧ p.Spans)
    ⟨State.passStart_owned owned, State.passStart_spans owned h⟩ (fun _ _ h => ⟨h.1.step _ _, h.2.step h.1 _ _⟩)
    fun _ h => ⟨h.1.finish, h.2.finish⟩
  exact ⟨legal, (pairwise_apart_iff owned'.ascending).2 apart, inside⟩

end Sys2Proof.Machine
end

section
/-! SUPPORT. The evaluation pass and the streaks: what a pass makes of each sector, the peaks, and the sector record, the
table and the counter in every step (R57, R59 to R65, R78). -/

namespace Sys2Proof.Machine

/-! ### What a pass makes of one sector -/

/-- The streak record of an offer: begun by it, or the one the sector held, updated by it (R59, R60). -/
inductive Persistence.StreakOn (e : PassEnv) (l : Least) : Persistence → Nat → Streak → Prop
  | begun (x : Persistence) : StreakOn e l x 1 (Streak.begin e l)
  | pending (n : Nat) (k : Streak) : StreakOn e l (.pending n k) (n + 1) (k.update e l)
  | blocked (n : Nat) (k : Streak) : StreakOn e l (.blocked k) (n + 1) (k.update e l)

/-- What a step makes of a sector, with the offers that `offered` allows (R59 to R65). -/
inductive Persistence.StepsTo (e : PassEnv) (offered : Least → Prop) : Persistence → Persistence → Prop
  | same (x : Persistence) : StepsTo e offered x x
  | cleared (x : Persistence) : StepsTo e offered x .clear
  | confirmed (x : Persistence) (o : Nat) : StepsTo e offered x (.confirmed o)
  | reowned (x : Persistence) (a b : Nat) : StepsTo e offered x (x.reown a b)
  | pending {x : Persistence} {n : Nat} {k : Streak} {l : Least} (offer : offered l) (streak : StreakOn e l x n k)
      (below : n < e.mOn) : StepsTo e offered x (.pending n k)
  | blocked {x : Persistence} {n : Nat} {k : Streak} {l : Least} (offer : offered l) (streak : StreakOn e l x n k) :
      StepsTo e offered x (.blocked { k with late := true })
  | released (x : Persistence) (o : Nat) (below : 1 < e.mOff) : StepsTo e offered x (.releasing 1 o)
  | releasing (n o : Nat) (below : n + 1 < e.mOff) : StepsTo e offered (.releasing n o) (.releasing (n + 1) o)

/-- What a step at sector `i` makes of a pass: of every sector what `StepsTo` allows, and peaks no higher than before but
for that of a streak (R59 to R73). -/
structure Pass.Follows (e : PassEnv) (offered : Least → Prop) (i : Sector) (p q : Pass) : Prop where
  sectors : ∀ j : Sector, Persistence.StepsTo e offered p.sectors[j] q.sectors[j]
  peaks : ∀ y ∈ q.table, (∃ x ∈ p.table, y.peakClearance ≤ x.peakClearance) ∨
    ∃ n k l, offered l ∧ Persistence.StreakOn e l p.sectors[i] n k ∧ y.peakClearance = k.minClearance

/-- Peaks no higher than before. -/
def Pass.PeaksFrom (p q : Pass) : Prop := ∀ y ∈ q.table, ∃ x ∈ p.table, y.peakClearance ≤ x.peakClearance

namespace Pass

variable {e : PassEnv} {offered : Least → Prop} {i : Sector} {p q : Pass}

theorem PeaksFrom.of_table (h : ∀ y ∈ q.table, y ∈ p.table) : p.PeaksFrom q := fun y hy => ⟨y, h y hy, le_rfl⟩

theorem PeaksFrom.modifyEntry {n : Nat} {f : Intrusion → Intrusion} (lowers : ∀ x, (f x).peakClearance ≤ x.peakClearance)
    (table : q.table = (p.modifyEntry n f).table) : p.PeaksFrom q := by
  intro y hy
  rw [table] at hy
  obtain ⟨x, hx, rfl⟩ := List.mem_map.1 hy
  refine ⟨x, hx, ?_⟩
  split
  · exact lowers x
  · rfl

theorem PeaksFrom.strikeOwner (o : Nat) (l : Least) (table : q.table = (p.strikeOwner e o l).table) : p.PeaksFrom q := by
  refine .modifyEntry (fun x => ?_) table
  rw [Intrusion.strike_peakClearance]
  exact x.lowerPeak_peakClearance_le _ _ _ _

theorem Follows.of_table_mem (sectors : ∀ j : Sector, Persistence.StepsTo e offered p.sectors[j] q.sectors[j])
    (peaks : p.PeaksFrom q) : p.Follows e offered i q :=
  ⟨sectors, fun y hy => .inl (peaks y hy)⟩

theorem Follows.refl : p.Follows e offered i p := .of_table_mem (fun _ => .same _) (.of_table fun _ hy => hy)

theorem stepsTo_set {x : Persistence} (steps : Persistence.StepsTo e offered p.sectors[i] x)
    (sectors : q.sectors = p.sectors.set i.val x) (j : Sector) :
    Persistence.StepsTo e offered p.sectors[j] q.sectors[j] := by
  rw [sectors, getElem_set_fin]
  split
  · next same => exact same ▸ steps
  · exact .same _

theorem stepsTo_map_set {f : Persistence → Persistence} {x : Persistence}
    (each : ∀ y, Persistence.StepsTo e offered y (f y)) (steps : Persistence.StepsTo e offered p.sectors[i] x)
    (sectors : q.sectors = (p.sectors.map f).set i.val x) (j : Sector) :
    Persistence.StepsTo e offered p.sectors[j] q.sectors[j] := by
  rw [sectors, getElem_set_fin]
  split
  · next same => exact same ▸ steps
  · rw [getElem_map_fin]
    exact each _

/-- A sector changed, and no entry. -/
theorem Follows.set {x : Persistence} (steps : Persistence.StepsTo e offered p.sectors[i] x) :
    p.Follows e offered i (p.setSector i x) :=
  .of_table_mem (stepsTo_set steps rfl) (.of_table fun _ hy => hy)

theorem Follows.release (o : Nat) (note : Bool) : p.Follows e offered i (p.release i o note) := by
  refine .of_table_mem (stepsTo_set (.cleared _) rfl) (.modifyEntry ?_ rfl)
  exact fun _ => le_rfl

theorem Follows.quiet {n o : Nat} (steps : n < e.mOff → Persistence.StepsTo e offered p.sectors[i] (.releasing n o)) :
    p.Follows e offered i (p.quiet e i n o) := by
  unfold Pass.quiet
  split
  · exact .release _ _
  · next below => exact .set (steps (by omega))

theorem Follows.attempt {n : Nat} {k : Streak} {l : Least} (offer : offered l)
    (streak : Persistence.StreakOn e l p.sectors[i] n k) : p.Follows e offered i (p.attempt e i k) := by
  have blocks : Persistence.StepsTo e offered p.sectors[i] (.blocked { k with late := true }) := .blocked offer streak
  unfold Pass.attempt
  split
  · rcases attemptAlone_cases e i k p with ⟨-, opens⟩ | ⟨v, -, evicts⟩ | blocked | blocked
    · rw [opens]
      refine ⟨stepsTo_set (.confirmed _ _) rfl, fun y hy => ?_⟩
      rcases mem_openNew hy with hy | ⟨-, -, -, -, peak⟩
      · exact .inl ⟨y, hy, le_rfl⟩
      · exact .inr ⟨n, k, l, offer, streak, peak⟩
    · rw [evicts]
      refine ⟨stepsTo_map_set (fun y => ?_) (.confirmed _ _) rfl, fun y hy => ?_⟩
      · split
        · exact .cleared _
        · exact .same _
      · rcases mem_openNew hy with hy | ⟨-, -, -, -, peak⟩
        · exact .inl ⟨y, (List.mem_filter.1 hy).1, le_rfl⟩
        · exact .inr ⟨n, k, l, offer, streak, peak⟩
    · rw [blocked]
      exact .of_table_mem (stepsTo_set blocks rfl) (.of_table fun _ hy => hy)
    · rw [blocked]
      exact .of_table_mem (stepsTo_set blocks rfl) (.of_table fun _ hy => hy)
  · refine .of_table_mem (stepsTo_set (.confirmed _ _) rfl) (.modifyEntry (fun x => ?_) rfl)
    rw [Intrusion.strike_peakClearance]
    refine (Intrusion.lowerPeak_peakClearance_le _ _ _ _ _).trans (le_of_eq ?_)
    dsimp only
    split_ifs <;> rfl
  · next a b rest found =>
    refine .of_table_mem (stepsTo_map_set (fun y => .reowned y _ _) (.confirmed _ _) rfl) fun y hy => ?_
    obtain ⟨x, hx, rfl⟩ := List.mem_map.1 hy
    split
    · refine ⟨a, candidates_mem (i := i) (by simp [found]), ?_⟩
      rw [Intrusion.strike_peakClearance]
      exact (Intrusion.lowerPeak_peakClearance_le _ _ _ _ _).trans (Intrusion.lowerPeak_peakClearance_le _ _ _ _ _)
    · exact ⟨x, (List.mem_filter.1 hx).1, le_rfl⟩

theorem Follows.advance {n : Nat} {k : Streak} {l : Least} (offer : offered l)
    (streak : Persistence.StreakOn e l p.sectors[i] n k) : p.Follows e offered i (p.advance e i n k) := by
  unfold Pass.advance
  split
  · exact .attempt offer streak
  · next below => exact .set (.pending offer streak (by omega))

theorem Follows.step {v : Verdict} {offer : Option Least} (h : v = .infringe → ∀ l, offer = some l → offered l) :
    p.Follows e offered i (p.step e v offer i) := by
  have infringe : ∀ l, offered l → p.Follows e offered i (p.stepInfringe e i l) := by
    intro l offer
    unfold Pass.stepInfringe
    split
    · exact .advance offer (.begun _)
    · next was => exact .advance offer (was ▸ .pending _ _)
    · next was => exact .attempt offer (n := 0 + 1) (was ▸ .blocked _ _)
    · exact .of_table_mem (fun _ => .same _) (.strikeOwner _ _ rfl)
    · exact .of_table_mem (stepsTo_set (.confirmed _ _) rfl) (.strikeOwner _ _ rfl)
  have quiet : p.Follows e offered i (p.stepQuiet e i) := by
    unfold Pass.stepQuiet
    split
    · exact .refl
    · exact .set (.cleared _)
    · exact .set (.cleared _)
    · exact .quiet fun below => .released _ _ below
    · next was => exact .quiet fun below => was ▸ .releasing _ _ below
  have unguarded : p.Follows e offered i (p.stepUnguarded i) := by
    unfold Pass.stepUnguarded
    split
    · exact .refl
    · exact .set (.cleared _)
    · exact .set (.cleared _)
    · exact .release _ _
    · exact .release _ _
  cases v with
  | infringe =>
    cases offer with
    | some l => exact infringe l (h rfl l rfl)
    | none => exact .refl
  | warn | clear => exact quiet
  | unseen => exact .refl
  | unguarded => exact unguarded

end Pass

/-! ### Peaks below zero, and streak counts within m_on and m_off -/

/-- The minimum of a sector's streak is below zero. -/
def Persistence.Sunk (x : Persistence) : Prop :=
  ∀ (k : Nat) (st : Streak), x = .pending k st ∨ x = .blocked st → st.minClearance < 0

/-- A sector's streak count is below m_on in PENDING, below m_off in RELEASING (R57). -/
def Persistence.CountBelow (mOn mOff : Nat) (x : Persistence) : Prop :=
  ∀ k : Nat, ((∃ st, x = .pending k st) → 1 ≤ k ∧ k < mOn) ∧ ((∃ o, x = .releasing k o) → 1 ≤ k ∧ k < mOff)

namespace Persistence

variable {e : PassEnv} {l : Least} {x y : Persistence} {n : Nat} {k : Streak} {offered : Least → Prop}

theorem StreakOn.sunk (h : StreakOn e l x n k) (offer : l.clearance < 0) (sunk : x.Sunk) : k.minClearance < 0 := by
  have updated : ∀ st : Streak, st.minClearance < 0 → (st.update e l).minClearance < 0 := by
    intro st low
    unfold Streak.update
    split
    · exact offer
    · exact low
  cases h with
  | begun => exact offer
  | pending n k => exact updated k (sunk n k (.inl rfl))
  | blocked n k => exact updated k (sunk 0 k (.inr rfl))

theorem StreakOn.pos (h : StreakOn e l x n k) : 1 ≤ n := by cases h <;> exact Nat.le_add_left _ _

theorem sunk_clear : Sunk .clear := fun _ _ h => by rcases h with h | h <;> cases h

theorem countBelow_clear (mOn mOff : Nat) : CountBelow mOn mOff .clear := fun _ => ⟨nofun, nofun⟩

theorem StepsTo.sunk (h : StepsTo e (fun l => l.clearance < 0) x y) (sunk : x.Sunk) : y.Sunk := by
  intro n st streak
  cases h with
  | same => exact sunk n st streak
  | cleared => exact sunk_clear n st streak
  | confirmed | released | releasing => rcases streak with h | h <;> cases h
  | reowned _ a b =>
    cases x with
    | clear | pending _ _ | blocked _ => exact sunk n st streak
    | confirmed _ | releasing _ _ => rcases streak with h | h <;> cases h
  | pending offer on =>
    rcases streak with h | h <;> cases h
    exact on.sunk offer sunk
  | blocked offer on =>
    rcases streak with h | h <;> cases h
    exact on.sunk offer sunk

theorem StepsTo.countBelow (h : StepsTo e offered x y) (below : x.CountBelow e.mOn e.mOff) :
    y.CountBelow e.mOn e.mOff := by
  cases h with
  | same => exact below
  | cleared => exact countBelow_clear _ _
  | confirmed | blocked => exact fun k => ⟨nofun, nofun⟩
  | reowned _ a b =>
    cases x with
    | releasing n o =>
      exact fun k => ⟨nofun, fun ⟨_, is⟩ => (below k).2 ⟨o, by injection is with count; rw [count]⟩⟩
    | clear | pending _ _ | blocked _ => exact below
    | confirmed _ => exact fun k => ⟨nofun, nofun⟩
  | pending _ on lt =>
    refine fun k => ⟨fun ⟨_, is⟩ => ?_, nofun⟩
    cases is
    exact ⟨on.pos, lt⟩
  | released _ o lt =>
    refine fun k => ⟨nofun, fun ⟨_, is⟩ => ?_⟩
    cases is
    exact ⟨le_rfl, lt⟩
  | releasing n o lt =>
    refine fun k => ⟨nofun, fun ⟨_, is⟩ => ?_⟩
    cases is
    exact ⟨Nat.le_add_left _ _, lt⟩

end Persistence

/-- The peaks and the streaks of `SectorTracker.Negative`. -/
def Pass.Sunk (p : Pass) : Prop := (∀ x ∈ p.table, x.peakClearance < 0) ∧ ∀ i : Sector, p.sectors[i].Sunk

theorem Pass.Follows.sunk {e : PassEnv} {i : Sector} {p q : Pass} (h : p.Follows e (fun l => l.clearance < 0) i q)
    (sunk : p.Sunk) : q.Sunk := by
  obtain ⟨peaks, streaks⟩ := sunk
  refine ⟨fun y hy => ?_, fun j => (h.sectors j).sunk (streaks j)⟩
  rcases h.peaks y hy with ⟨x, hx, lower⟩ | ⟨n, k, l, offer, on, same⟩
  · exact lower.trans_lt (peaks x hx)
  · rw [same]
    exact on.sunk offer (streaks i)

/-- A sector with verdict INFRINGE has a least clearance below zero, where hit_threshold is at least 1 (R51). -/
theorem State.offer_below_zero {s : State} (hit : 1 ≤ s.effNat Param.hitThreshold)
    (offers : ∀ i : Sector, 1 ≤ s.tracker.accumulators[i].infringing →
      ∃ l, s.tracker.accumulators[i].least = some l ∧ l.clearance < 0) {slot : Option SlotId} {i : Sector}
    (infringe : s.verdict slot i = .infringe) {l : Least} (least : s.tracker.accumulators[i].least = some l) :
    l.clearance < 0 := by
  have hits : s.effNat Param.hitThreshold ≤ s.tracker.accumulators[i].infringing := by
    unfold State.verdict verdictOf at infringe
    split_ifs at infringe with _ _ hits
    exact hits
  obtain ⟨l', least', below⟩ := offers i (hit.trans hits)
  rw [least] at least'
  exact Option.some.inj least' ▸ below

theorem State.evaluated_negative {s : State} (hit : 1 ≤ s.effNat Param.hitThreshold) (h : s.tracker.Negative)
    (r : RingContext) : (s.evaluated r).Negative := by
  have start : s.passStart.Sunk := by
    refine ⟨fun y hy => ?_, fun i => h.streaks i⟩
    obtain ⟨x, hx, rfl⟩ := List.mem_map.1 hy
    exact h.peaks x hx
  obtain ⟨peaks, streaks⟩ := s.evaluate_keeps r start
    (fun p i sunk => Pass.Follows.sunk (.step fun infringe l => s.offer_below_zero hit h.offers infringe) sunk)
    fun p sunk => ⟨fun x hx => sunk.1 x (List.mem_filter.1 hx).1, sunk.2⟩
  exact ⟨peaks, streaks, h.offers⟩

theorem State.evaluated_countBelow {s : State} (h : s.CountsBelow) (r : RingContext) (i : Sector) :
    (s.evaluated r).sectors[i].CountBelow (s.effNat Param.mOn) (s.effNat Param.mOff) :=
  s.evaluate_keeps r (P := fun p => ∀ i : Sector, p.sectors[i].CountBelow (s.effNat Param.mOn) (s.effNat Param.mOff))
    h (fun p i below j => ((Pass.Follows.step (offered := fun _ => True) fun _ _ _ => trivial).sectors j).countBelow
      (below j)) (fun _ below => below) i

end Sys2Proof.Machine
end

section
/-! SUPPORT. Every step keeps the sectors and the intrusion table in agreement: what each move makes of them. -/

namespace Sys2Proof.Machine

/-- What a move makes of the sectors, the table, the counter, the accumulators and the RUN values in effect. -/
inductive State.Tracks (s : State) : SectorTracker → (ParamId → Int) → Prop
  | kept {t : SectorTracker} (sectors : t.sectors = s.tracker.sectors) (table : t.table = s.tracker.table)
      (counter : t.counter = s.tracker.counter)
      (accumulators : t.accumulators = s.tracker.accumulators ∨ t.accumulators = Vector.replicate 256 .empty) :
      Tracks s t s.runValue
  | sampled {x : Solved} (sound : x.Sound) :
      Tracks s { s.tracker with
        accumulators := s.tracker.accumulators.set x.sector.val (s.tracker.accumulators[x.sector].add x) } s.runValue
  | cleared {t : SectorTracker} {values : ParamId → Int} (sectors : t.sectors = Vector.replicate 256 .clear)
      (table : t.table = [])
      (accumulators : t.accumulators = s.tracker.accumulators ∨ t.accumulators = Vector.replicate 256 .empty)
      (params : values = s.runValue ∨ ∀ p : ParamId, (paramRow p).cls = .run → (paramRow p).admits (values p) = true) :
      Tracks s t values
  | evaluated (r : RingContext) : Tracks s (s.evaluated r) s.runValue

namespace State.Tracks

variable {s : State}

theorem of_same {o : Outline} (h : o.tracker = s.tracker) (h' : o.values = s.runValue) :
    s.Tracks o.tracker o.values := by
  rw [h, h']
  exact .kept rfl rfl rfl (.inl rfl)

theorem alert (b : Bool) : s.Tracks { s.tracker with alert := b } s.runValue := .kept rfl rfl rfl (.inl rfl)

theorem closed : s.Tracks s.tracker.cleared s.runValue := .cleared rfl rfl (.inl rfl) (.inl rfl)

theorem ended (o : Outline) (tracker : o.tracker = s.tracker) (values : o.values = s.runValue) (ctrl : RunController) :
    s.Tracks (o.ended ctrl).tracker (o.ended ctrl).values := by
  unfold Outline.ended
  dsimp only
  split <;> simp only [Outline.left, tracker, values] <;> exact .cleared rfl rfl (.inl rfl) (.inl rfl)

end State.Tracks

theorem State.Move.outlineTracks {s t : State} (m : s.Move t) : s.Tracks t.outline.tracker t.outline.values := by
  cases m with
  | quiet same => exact .of_same (congrArg _ same) (congrArg _ same)
  | chosen =>
    obtain ⟨sending, outline⟩ := s.choose_outline
    rw [outline]
    exact .alert _
  | ceased outline =>
    rw [outline]
    exact .alert _
  | segmentSent sending segment =>
    obtain ⟨slots, order, outline⟩ := (s.withLink { s.link with tx := none }).segmentSent_outline_run _
    rw [outline]
    exact .alert _
  | sampled _ raw x =>
    rcases s.takeSample_outline raw x with same | ⟨r, v, -, sound, outline⟩
    · exact .of_same (congrArg _ same) (congrArg _ same)
    · rw [outline]
      exact .sampled sound
  | @ringOpened w _ =>
    obtain ⟨slot, slots, -, outline⟩ := w.openRing_outline
    rw [outline]
    exact .kept rfl rfl rfl (.inr rfl)
  | @ringClosed w r opened =>
    rcases w.closeRing_outline opened with outline | ⟨slots, order, -, outline⟩ <;> rw [outline]
    · exact .alert _
    · exact .evaluated r
  | @fixPlaced w _ f =>
    rw [w.placeFix_outline]
    exact .alert _
  | settled w =>
    rcases w.settle_outline with ⟨same, -⟩ | ⟨-, x, outline⟩
    · exact .of_same (congrArg _ same) (congrArg _ same)
    · rw [outline]
      exact .ended _ rfl rfl _
  | stalled timing =>
    set w := ((Work.of s).modify fun s => s.withRing { s.ring with stall := none }).raise .headStall with hw
    have raised : w.st.outline = { s.outline with timing := false } := (Work.raise_reports _ _).outline
    rcases w.settle_outline with ⟨same, -⟩ | ⟨-, x, outline⟩
    · rw [same]
      exact .of_same (congrArg Outline.tracker raised) (congrArg Outline.values raised)
    · rw [outline]
      exact .ended _ (congrArg Outline.tracker raised) (congrArg Outline.values raised) _
  | @started w _ v =>
    obtain ⟨values, admitted, outline⟩ := w.startAt_outline v
    rw [outline]
    exact .cleared rfl rfl (.inr rfl) (.inr admitted)
  | @paused w _ =>
    obtain ⟨c, outline⟩ := w.pauseRun_outline
    rw [outline]
    exact .alert _
  | @resumed w _ =>
    rw [Work.modify_st, State.resumeRun_outline]
    rcases w.gapClose_outline with outline | outline <;> rw [outline]
    · exact .alert _
    · exact .cleared rfl rfl (.inl rfl) (.inl rfl)
  | @stopped w _ =>
    rw [w.stopRun_outline]
    exact .ended _ rfl rfl _
  | faultCleared _ => exact .alert _
  | reset =>
    obtain ⟨values, admitted, outline⟩ := s.afterReset_outline
    rw [outline]
    exact .cleared rfl rfl (.inr rfl) (.inr admitted)
  | poweredOn => exact .cleared rfl rfl (.inr rfl) (.inr State.reset_runValue)

theorem State.Move.tracks {s t : State} (m : s.Move t) : s.Tracks t.tracker t.runValue := m.outlineTracks

/-! ### What the invariants read of the sectors and the table -/

theorem getElem_replicate_fin {α : Type} {n : Nat} (x : α) (i : Fin n) : (Vector.replicate n x)[i] = x := by
  simp [Fin.getElem_fin]

theorem SectorTracker.Owned.congr {t u : SectorTracker} (h : t.Owned) (sectors : u.sectors = t.sectors)
    (table : u.table = t.table) (counter : u.counter = t.counter) : u.Owned := by
  obtain ⟨a, b, c, d, e⟩ := h
  refine ⟨?_, ?_, ?_, ?_, ?_⟩ <;> simpa only [SectorTracker.ownedBy, sectors, table, counter]

theorem SectorTracker.Spans.congr {t u : SectorTracker} (h : t.Spans) (sectors : u.sectors = t.sectors)
    (table : u.table = t.table) : u.Spans := by
  obtain ⟨a, b, c⟩ := h
  refine ⟨?_, ?_, ?_⟩ <;> simpa only [sectors, table]

/-- With the table empty and every sector CLEAR nothing is owned. -/
theorem SectorTracker.owned_of_cleared {t : SectorTracker} (sectors : t.sectors = Vector.replicate 256 .clear)
    (table : t.table = []) : t.Owned := by
  refine ⟨by simp [table], by simp [table], by simp [table], by simp [table], fun i n owner => ?_⟩
  rw [sectors, getElem_replicate_fin] at owner
  cases owner

theorem SectorTracker.spans_of_cleared {t : SectorTracker} (table : t.table = []) : t.Spans := by
  refine ⟨?_, ?_, ?_⟩ <;> simp [table]

/-- A sample raises the infringing count only with a clearance below zero, and the least clearance never rises (R48). -/
theorem Accumulator.add_negative {a : Accumulator} {x : Solved} (sound : x.Sound)
    (h : 1 ≤ a.infringing → ∃ l, a.least = some l ∧ l.clearance < 0) (some_infringe : 1 ≤ (a.add x).infringing) :
    ∃ l, (a.add x).least = some l ∧ l.clearance < 0 := by
  have falls : ∀ l : Least, a.least = some l → l.clearance < 0 → ∃ l, (a.add x).least = some l ∧ l.clearance < 0 := by
    intro l least below
    simp only [Accumulator.add, least]
    split
    · next q _ =>
      split
      · next better => exact ⟨_, rfl, lt_trans (by simpa [improves] using better) below⟩
      · exact ⟨l, rfl, below⟩
    · exact ⟨l, rfl, below⟩
  by_cases before : 1 ≤ a.infringing
  · obtain ⟨l, least, below⟩ := h before
    exact falls l least below
  · have infringing : x.point.judgement = .infringing := by
      by_contra other
      exact before (by simpa [Accumulator.add, other] using some_infringe)
    obtain ⟨q, clearance, below⟩ := sound infringing
    cases least : a.least with
    | none => exact ⟨_, by simp [Accumulator.add, clearance, least, improves]; rfl, below⟩
    | some l =>
      simp only [Accumulator.add, clearance, least]
      split
      · exact ⟨_, rfl, below⟩
      · next worse => exact ⟨l, rfl, lt_of_le_of_lt (by simpa [improves] using worse) below⟩

/-! ### The invariants -/

namespace State.Tracks

variable {s : State} {t : SectorTracker} {values : ParamId → Int}

theorem owned (h : s.Tracks t values) (owned : s.tracker.Owned) : t.Owned := by
  cases h with
  | kept sectors table counter => exact owned.congr sectors table counter
  | sampled => exact owned.congr rfl rfl rfl
  | cleared sectors table => exact SectorTracker.owned_of_cleared sectors table
  | evaluated r => exact State.evaluated_owned owned r

theorem spans (h : s.Tracks t values) (owned : s.tracker.Owned) (spans : s.tracker.Spans) : t.Spans := by
  cases h with
  | kept sectors table => exact spans.congr sectors table
  | sampled => exact spans.congr rfl rfl
  | cleared _ table => exact SectorTracker.spans_of_cleared table
  | evaluated r => exact State.evaluated_spans owned spans r

theorem admitted (h : s.Tracks t values)
    (admitted : ∀ p : ParamId, (paramRow p).cls = .run → (paramRow p).admits (s.runValue p) = true) :
    ∀ p : ParamId, (paramRow p).cls = .run → (paramRow p).admits (values p) = true := by
  cases h with
  | kept | sampled | evaluated => exact admitted
  | cleared _ _ _ params =>
    rcases params with rfl | params
    · exact admitted
    · exact params

theorem negative (h : s.Tracks t values) (hit : 1 ≤ s.effNat Param.hitThreshold) (negative : s.tracker.Negative) :
    t.Negative := by
  have none : ∀ u : SectorTracker, u.accumulators = s.tracker.accumulators ∨
      u.accumulators = Vector.replicate 256 .empty → ∀ i : Sector, 1 ≤ u.accumulators[i].infringing →
        ∃ l, u.accumulators[i].least = some l ∧ l.clearance < 0 := by
    rintro u (same | empty) i
    · rw [same]
      exact negative.offers i
    · rw [empty, getElem_replicate_fin]
      nofun
  cases h with
  | kept sectors table _ accumulators =>
    refine ⟨?_, ?_, none _ accumulators⟩
    · rw [table]
      exact negative.peaks
    · rw [sectors]
      exact negative.streaks
  | @sampled x sound =>
    refine ⟨negative.peaks, negative.streaks, fun i => ?_⟩
    dsimp only
    rw [getElem_set_fin]
    split
    · exact Accumulator.add_negative sound (negative.offers x.sector)
    · exact negative.offers i
  | cleared sectors table accumulators =>
    refine ⟨by simp [table], fun i k st streak => ?_, none _ accumulators⟩
    rw [sectors, getElem_replicate_fin] at streak
    exact Persistence.sunk_clear k st streak
  | evaluated r => exact State.evaluated_negative hit negative r

theorem countBelow (h : s.Tracks t values) (below : s.CountsBelow) (i : Sector) :
    t.sectors[i].CountBelow (values Param.mOn).toNat (values Param.mOff).toNat := by
  cases h with
  | kept sectors =>
    rw [sectors]
    exact below i
  | sampled => exact below i
  | cleared sectors =>
    rw [sectors, getElem_replicate_fin]
    exact Persistence.countBelow_clear _ _
  | evaluated r => exact State.evaluated_countBelow below r i

end State.Tracks

/-! ### The invariants -/

/-- hit_threshold in effect is at least 1 where it is one its parameter admits (R51). -/
theorem State.hitThreshold_pos {s : State}
    (admitted : ∀ p : ParamId, (paramRow p).cls = .run → (paramRow p).admits (s.runValue p) = true) :
    1 ≤ s.effNat Param.hitThreshold := by
  have admits : (paramRow Param.hitThreshold).admits (s.eff Param.hitThreshold) = true := admitted _ rfl
  have low : 1 ≤ s.eff Param.hitThreshold := (of_decide_eq_true admits).1
  unfold State.effNat
  omega

/-- Settles O11: every move of a step keeps each of the four invariants. -/
theorem ownershipKept : Obligations.OwnershipKept := by
  refine ⟨fun s t owned steps => ?_, fun s t owned spans steps => ?_, fun s t effect negative steps => ?_,
    fun s t below steps => ?_⟩
  · exact (step_goes steps).keeps (P := fun u => u.tracker.Owned) (fun _ _ m h => m.tracks.owned h) owned
  · exact ((step_goes steps).keeps (P := fun u => u.tracker.Owned ∧ u.tracker.Spans)
      (fun _ _ m h => ⟨m.tracks.owned h.1, m.tracks.spans h.1 h.2⟩) ⟨owned, spans⟩).2
  · have admitted : ∀ p : ParamId, (paramRow p).cls = .run → (paramRow p).admits (s.runValue p) = true := by
      intro p run
      rw [State.runValue, if_pos run]
      exact effect.1 p
    exact ((step_goes steps).keeps (P := fun u =>
      (∀ p : ParamId, (paramRow p).cls = .run → (paramRow p).admits (u.runValue p) = true) ∧ u.tracker.Negative)
      (fun _ _ m h => ⟨m.tracks.admitted h.1, m.tracks.negative (State.hitThreshold_pos h.1) h.2⟩)
      ⟨admitted, negative⟩).2
  · exact (step_goes steps).keeps (P := State.CountsBelow) (fun _ _ m h => m.tracks.countBelow h) below

end Sys2Proof.Machine
end

section
/-! SUPPORT. One sector stepped, the confirm attempt by its candidates, and the end of a pass, as chapter 4 says them. -/

namespace Sys2Proof.Machine

namespace Pass

variable (e : PassEnv) {p : Pass} {i : Sector}

/-! ### The step by the state of the sector -/

theorem step_infringe_clear (was : p.sectors[i] = .clear) (offer : Least) :
    p.step e .infringe (some offer) i = p.advance e i 1 (Streak.begin e offer) := by
  simp only [Pass.step, Pass.stepInfringe, was]

theorem step_infringe_pending {k : Nat} {st : Streak} (was : p.sectors[i] = .pending k st) (offer : Least) :
    p.step e .infringe (some offer) i = p.advance e i (k + 1) (st.update e offer) := by
  simp only [Pass.step, Pass.stepInfringe, was]

theorem step_infringe_blocked {st : Streak} (was : p.sectors[i] = .blocked st) (offer : Least) :
    p.step e .infringe (some offer) i = p.attempt e i (st.update e offer) := by
  simp only [Pass.step, Pass.stepInfringe, was]

theorem step_infringe_confirmed {o : Nat} (was : p.sectors[i] = .confirmed o) (offer : Least) :
    p.step e .infringe (some offer) i = p.strikeOwner e o offer := by
  simp only [Pass.step, Pass.stepInfringe, was]

theorem step_infringe_releasing {k o : Nat} (was : p.sectors[i] = .releasing k o) (offer : Least) :
    p.step e .infringe (some offer) i = (p.strikeOwner e o offer).setSector i (.confirmed o) := by
  simp only [Pass.step, Pass.stepInfringe, was]

/-- A count that has not reached m_on is PENDING (R59, R60). -/
theorem advance_eq (n : Nat) (k : Streak) :
    p.advance e i n k = if n < e.mOn then p.setSector i (.pending n k) else p.attempt e i k := by
  unfold Pass.advance
  by_cases below : n < e.mOn
  · rw [if_pos below, if_neg (Nat.not_le.2 below)]
  · rw [if_neg below, if_pos (Nat.not_lt.1 below)]

/-- A count that has not reached m_off is RELEASING (R62). -/
theorem quiet_eq (n o : Nat) :
    p.quiet e i n o = if n < e.mOff then p.setSector i (.releasing n o) else p.release i o false := by
  unfold Pass.quiet
  by_cases below : n < e.mOff
  · rw [if_pos below, if_neg (Nat.not_le.2 below)]
  · rw [if_neg below, if_pos (Nat.not_lt.1 below)]

theorem setSector_self {x : Persistence} (was : p.sectors[i] = x) : p.setSector i x = p := by
  have same : p.sectors.set i.val x = p.sectors := by
    rw [← was]
    exact Vector.set_getElem_self _
  rw [Pass.setSector, same]

/-- A sector that nothing owns is CLEAR after a verdict that does not infringe (R64, R65). -/
theorem step_unowned {v : Verdict} (any : Option Least) (hv : v = .clear ∨ v = .warn ∨ v = .unguarded)
    (free : p.sectors[i].owner = none) : p.step e v any i = p.setSector i .clear := by
  have quiet : p.stepQuiet e i = p.setSector i .clear ∧ p.stepUnguarded i = p.setSector i .clear := by
    unfold Pass.stepQuiet Pass.stepUnguarded
    match was : p.sectors[i] with
    | .clear => exact ⟨(setSector_self was).symm, (setSector_self was).symm⟩
    | .pending _ _ | .blocked _ => exact ⟨rfl, rfl⟩
    | .confirmed _ | .releasing _ _ => rw [was] at free; cases free
  rcases hv with rfl | rfl | rfl
  · exact quiet.1
  · exact quiet.1
  · exact quiet.2

theorem step_quiet_confirmed {v : Verdict} {o : Nat} (any : Option Least) (hv : v = .clear ∨ v = .warn)
    (was : p.sectors[i] = .confirmed o) : p.step e v any i = p.quiet e i 1 o := by
  rcases hv with rfl | rfl <;> simp only [Pass.step, Pass.stepQuiet, was]

theorem step_quiet_releasing {v : Verdict} {k o : Nat} (any : Option Least) (hv : v = .clear ∨ v = .warn)
    (was : p.sectors[i] = .releasing k o) : p.step e v any i = p.quiet e i (k + 1) o := by
  rcases hv with rfl | rfl <;> simp only [Pass.step, Pass.stepQuiet, was]

theorem step_unguarded_owned {o : Nat} (any : Option Least) (owner : p.sectors[i].owner = some o) :
    p.step e .unguarded any i = p.release i o true := by
  simp only [Pass.step, Pass.stepUnguarded]
  match was : p.sectors[i] with
  | .confirmed _ | .releasing _ _ =>
    rw [was] at owner
    cases owner
    rfl
  | .clear | .pending _ _ | .blocked _ => rw [was] at owner; cases owner

end Pass

theorem Persistence.owner_eq_some_iff (x : Persistence) (o : Nat) :
    x.owner = some o ↔ x = .confirmed o ∨ ∃ k, x = .releasing k o := by
  cases x <;> simp [Persistence.owner]

/-- A span contains the sectors it counts from its first (§0.4). -/
theorem Intrusion.contains_iff_exists (x : Intrusion) (i : Sector) :
    x.contains i = true ↔ ∃ d < x.span, x.first + Fin.ofNat 256 d = i := by
  rw [contains_iff]
  have hi := i.isLt
  have hf := x.first.isLt
  constructor
  · intro h
    refine ⟨_, h, Fin.ext ?_⟩
    rw [Fin.val_add, Fin.val_ofNat]
    omega
  · rintro ⟨d, lt, rfl⟩
    rw [Fin.val_add, Fin.val_ofNat]
    have := Nat.mod_le d 256
    omega

/-! ### The attempt by its candidates -/

/-- The victim under REPLACE is the greatest by peak, and of equal peaks by number (R70). -/
theorem victimOf_eq_some {xs : List Intrusion} {v : Intrusion} (hv : v ∈ xs)
    (greatest : ∀ x ∈ xs, x = v ∨ x.peakClearance < v.peakClearance ∨
      (x.peakClearance = v.peakClearance ∧ x.number < v.number)) : victimOf xs = some v := by
  induction xs with
  | nil => cases hv
  | cons x xs ih =>
    have rest := fun y hy => greatest y (List.mem_cons_of_mem x hy)
    simp only [victimOf]
    by_cases there : v ∈ xs
    · rw [ih there rest]
      dsimp only
      rcases greatest x List.mem_cons_self with rfl | lower | ⟨same, lower⟩
      · split <;> rfl
      · rw [if_neg (by omega)]
      · rw [if_neg (by omega)]
    · obtain rfl : v = x := (List.mem_cons.1 hv).resolve_right there
      split
      · rfl
      · next w found =>
        rcases rest w (Pass.victimOf_mem found) with rfl | lower | ⟨same, lower⟩
        · split <;> rfl
        · rw [if_pos (by omega)]
        · rw [if_pos (by omega)]

namespace Pass

variable {e : PassEnv} {p : Pass} {i : Sector}

/-- What takes part in a confirm attempt (R66). -/
def Near (i : Sector) (x : Intrusion) : Prop :=
  x.contains i = true ∨ x.first = i + 1 ∨ x.first + Fin.ofNat 256 x.span = i

theorem mem_candidates_iff {x : Intrusion} : x ∈ p.candidates i ↔ x ∈ p.table ∧ Near i x := by
  simp [Pass.candidates, Near, Intrusion.beginsAfter, Intrusion.endsBefore, or_assoc]

theorem candidates_eq_nil (none : ∀ x ∈ p.table, ¬ Near i x) : p.candidates i = [] :=
  List.eq_nil_iff_forall_not_mem.2 fun x hx => none x (mem_candidates_iff.1 hx).1 (mem_candidates_iff.1 hx).2

/-- The candidates in ascending number are the list of them in ascending number. -/
theorem candidates_eq {xs : List Intrusion} (ascending : (p.table.map Intrusion.number).Pairwise (· < ·))
    (ordered : xs.Pairwise fun x y => x.number < y.number) (mem : ∀ x, x ∈ xs ↔ x ∈ p.table ∧ Near i x) :
    p.candidates i = xs := by
  have asym : ∀ {ys : List Intrusion}, ys.Pairwise (fun x y => x.number < y.number) → ys.Nodup := fun h =>
    h.imp fun lt same => by rw [same] at lt; exact Nat.lt_irrefl _ lt
  have ordered' : (p.candidates i).Pairwise fun x y => x.number < y.number :=
    (List.pairwise_map.1 ascending).filter _
  refine List.Perm.eq_of_pairwise (fun a b _ _ ab ba => absurd ab (Nat.lt_asymm ba)) ordered' ordered ?_
  exact (List.perm_ext_iff_of_nodup (asym ordered') (asym ordered)).2 fun x => mem_candidates_iff.trans (mem x).symm

theorem eq_of_number (ascending : (p.table.map Intrusion.number).Pairwise (· < ·)) {x y : Intrusion}
    (hx : x ∈ p.table) (hy : y ∈ p.table) (same : x.number = y.number) : x = y := by
  by_contra ne
  exact ne (List.inj_on_of_nodup_map (ascending.imp fun lt => Nat.ne_of_lt lt) hx hy same)

theorem attempt_of_none (none : ∀ x ∈ p.table, ¬ Near i x) (st : Streak) : p.attempt e i st = p.attemptAlone e i st := by
  unfold Pass.attempt
  rw [candidates_eq_nil none]

theorem attemptAlone_opens (counter : p.counter ≤ Config.top32) (room : p.table.length < 16) (st : Streak) :
    p.attemptAlone e i st = p.openNew e i st := by
  unfold Pass.attemptAlone
  rw [if_neg (by omega), if_pos (show p.table.length < Config.maxIntrusions from room)]

theorem attemptAlone_blocks (h : Config.top32 < p.counter ∨ 16 ≤ p.table.length ∧ e.replace = false) (st : Streak) :
    p.attemptAlone e i st = (p.block i st).emit (.cause .tableFull) := by
  unfold Pass.attemptAlone
  by_cases spent : Config.top32 < p.counter
  · rw [if_pos spent]
  · obtain ⟨full, keep⟩ := h.resolve_left spent
    rw [if_neg spent, if_neg (show ¬ p.table.length < Config.maxIntrusions from Nat.not_lt.2 full), keep]
    rfl

theorem attemptAlone_replaces (counter : p.counter ≤ Config.top32) (full : 16 ≤ p.table.length)
    (replace : e.replace = true) {v : Intrusion} (victim : victimOf p.table = some v) (st : Streak) :
    p.attemptAlone e i st = if st.minClearance < v.peakClearance then
      ((p.emit (.cause .tableFull)).evict e v).openNew e i st
    else (p.block i st).emit (.cause .tableFull) := by
  unfold Pass.attemptAlone
  rw [if_neg (by omega), if_neg (show ¬ p.table.length < Config.maxIntrusions from Nat.not_lt.2 full)]
  dsimp only
  rw [replace, show (p.emit (.cause .tableFull)).table = p.table from rfl, victim]
  rfl

theorem attempt_joins (ascending : (p.table.map Intrusion.number).Pairwise (· < ·)) {a : Intrusion} (ha : a ∈ p.table)
    (near : Near i a) (only : ∀ x ∈ p.table, Near i x → x = a) (st : Streak) : p.attempt e i st = p.join i st a := by
  have one : p.candidates i = [a] := candidates_eq ascending (List.pairwise_singleton _ _) fun x => by
    rw [List.mem_singleton]
    exact ⟨fun same => same ▸ ⟨ha, near⟩, fun h => only x h.1 h.2⟩
  unfold Pass.attempt
  rw [one]

theorem attempt_merges (ascending : (p.table.map Intrusion.number).Pairwise (· < ·)) {a b : Intrusion}
    (ha : a ∈ p.table) (hb : b ∈ p.table) (lt : a.number < b.number) (na : Near i a) (nb : Near i b)
    (only : ∀ x ∈ p.table, Near i x → x = a ∨ x = b) (st : Streak) : p.attempt e i st = p.merge e i st a b := by
  have two : p.candidates i = [a, b] := candidates_eq ascending (by simpa using lt) fun x => by
    rw [List.mem_cons, List.mem_singleton]
    refine ⟨?_, fun h => only x h.1 h.2⟩
    rintro (rfl | rfl)
    · exact ⟨ha, na⟩
    · exact ⟨hb, nb⟩
  unfold Pass.attempt
  rw [two]

/-- A change of an entry is a change of that entry alone. -/
theorem modifyEntry_eq (ascending : (p.table.map Intrusion.number).Pairwise (· < ·)) {a : Intrusion} (ha : a ∈ p.table)
    (f : Intrusion → Intrusion) :
    p.modifyEntry a.number f = { p with table := p.table.map fun x => if x.number = a.number then f a else x } := by
  have table : (p.table.map fun x => if x.number = a.number then f x else x) =
      p.table.map fun x => if x.number = a.number then f a else x :=
    List.map_congr_left fun x hx => by
      split
      · next same => rw [eq_of_number ascending hx ha same]
      · rfl
  rw [Pass.modifyEntry, table]

theorem join_eq (ascending : (p.table.map Intrusion.number).Pairwise (· < ·)) {a : Intrusion} (ha : a ∈ p.table)
    (st : Streak) : p.join i st a = { p with
      sectors := p.sectors.set i (.confirmed a.number)
      table := p.table.map fun x =>
        if x.number = a.number then
          ({ (if a.contains i then a
              else if a.first = i + 1 then { a with first := i, span := a.span + 1 }
              else { a with span := a.span + 1 } : Intrusion) with owned := a.owned + 1 }.lowerPeak
            st.minClearance st.minAngle st.minChainage st.minRing).strike
        else x } := by
  rw [Pass.join, modifyEntry_eq ascending ha]
  by_cases inside : a.contains i = true
  · simp only [if_pos inside]
    rfl
  · by_cases begins : a.first = i + 1
    · simp only [if_neg inside, if_pos begins, Intrusion.beginsAfter, decide_eq_true begins, if_true]
      rfl
    · simp only [if_neg inside, if_neg begins, Intrusion.beginsAfter, decide_eq_false begins, Bool.false_eq_true,
        if_false]
      rfl

theorem merge_eq (e : PassEnv) (p : Pass) (i : Sector) (st : Streak) (a b : Intrusion) :
    p.merge e i st a b = { p with
      sectors := (p.sectors.map fun
        | .confirmed n => .confirmed (if n = b.number then a.number else n)
        | .releasing k n => .releasing k (if n = b.number then a.number else n)
        | x => x).set i (.confirmed a.number)
      table := (p.table.filter fun x => x.number ≠ b.number).map fun x =>
        if x.number = a.number then
          (({ a with
              first := if a.first + Fin.ofNat 256 a.span = i then a.first else b.first
              span := a.span + b.span + 1, owned := a.owned + b.owned + 1 }.lowerPeak
            b.peakClearance b.peakAngle b.peakChainage b.peakRing).lowerPeak
            st.minClearance st.minAngle st.minChainage st.minRing).strike
        else x
      out := p.out ++ [.record (.intrusionClose b e.chainage e.sequence .merged (some a.number))] } := by
  simp only [Pass.merge, Intrusion.endsBefore, decide_eq_true_eq]
  rfl

end Pass

/-- Settles O60: the step by the sector's state, the attempt by its candidates, and the closes at the end. -/
theorem sectorStepped : Obligations.SectorStepped := by
  intro e p i offer any fresh lowered sunk struck offered released
  refine ⟨fun _ _ => rfl, fun _ => rfl, Persistence.owner_eq_some_iff, rfl, fun was => ?_, fun k st was => ?_,
    fun st was => ?_, fun o was => ?_, fun k o was => ?_, fun v hv free => p.step_unowned e any hv free, fun v o hv was => ?_,
    fun v k o hv was => ?_, fun o owner => p.step_unguarded_owned e any owner, fun x => x.contains_iff_exists i,
    fun st => ?_, rfl⟩
  · rw [Pass.step_infringe_clear e was, Pass.advance_eq]
    rfl
  · rw [Pass.step_infringe_pending e was, Pass.advance_eq]
    rfl
  · rw [Pass.step_infringe_blocked e was]
    rfl
  · rw [Pass.step_infringe_confirmed e was]
    rfl
  · rw [Pass.step_infringe_releasing e was]
    rfl
  · rw [Pass.step_quiet_confirmed e any hv was, Pass.quiet_eq]
    rfl
  · rw [Pass.step_quiet_releasing e any hv was, Pass.quiet_eq]
    rfl
  · intro near entry opened blocked
    refine ⟨fun none => ⟨fun counter room => ?_, fun h => ?_, fun counter full replace v hv greatest => ?_⟩,
      fun ascending => ⟨fun a ha na only => ?_, fun a ha b hb lt na nb only => ?_⟩⟩
    · rw [Pass.attempt_of_none none, Pass.attemptAlone_opens counter room]
      rfl
    · rw [Pass.attempt_of_none none, Pass.attemptAlone_blocks h]
      rfl
    · rw [Pass.attempt_of_none none, Pass.attemptAlone_replaces counter full replace (victimOf_eq_some hv greatest)]
      split
      · simp only [Pass.openNew, Pass.evict, Pass.emit, Pass.setSector, opened, entry, closeRecord, List.append_assoc,
          List.cons_append, List.nil_append]
      · rfl
    · intro grown
      rw [Pass.attempt_joins ascending ha na only]
      exact Pass.join_eq ascending ha st
    · intro joined
      rw [Pass.attempt_merges ascending ha hb lt na nb only]
      exact Pass.merge_eq e p i st a b

end Sys2Proof.Machine
end

section
/-! SUPPORT. Leaving RUNNING, closing every intrusion, STOP and fault entry with room in the event queue: the exact state
each leaves (R134, R138, R139, R140). -/

namespace Sys2Proof.Machine

/-! ### Records queued one after the other -/

/-- The state with event records of several bodies at the tail of the event queue (R158). -/
def State.recordedAll (s : State) (bs : List EventBody) : State :=
  s.withLink { s.link with events := s.link.events ++ bs.map fun b => { ringSeq := s.ring.ringSeq, body := b } }

theorem State.recordedAll_nil (s : State) : s.recordedAll [] = s := by
  simp only [State.recordedAll, List.map_nil, List.append_nil]
  rfl

theorem State.recordedAll_cons (s : State) (b : EventBody) (bs : List EventBody) :
    s.recordedAll (b :: bs) = (s.recorded b).recordedAll bs := by
  simp [State.recordedAll, State.recorded, State.withLink]

theorem State.recordedAll_append (s : State) (bs cs : List EventBody) :
    s.recordedAll (bs ++ cs) = (s.recordedAll bs).recordedAll cs := by
  simp [State.recordedAll, State.withLink]

theorem State.recordedAll_room {s : State} {bs : List EventBody} {n : Nat} (h : s.room (bs.length + n)) :
    (s.recordedAll bs).room n := by
  unfold State.room at *
  simp only [State.recordedAll, State.withLink_link, List.length_append, List.length_map]
  omega

theorem Work.foldl_queue_mk {α : Type} (xs : List α) (f : Option Cause) (body : Work → α → EventBody) (b : α → EventBody)
    {s : State} (h : s.room xs.length) (same : ∀ (w : Work) (x : α), w.st.ring = s.ring → body w x = b x) :
    xs.foldl (fun w x => w.queue (body w x)) (Work.mk s f) = Work.mk (s.recordedAll (xs.map b)) f := by
  induction xs generalizing s with
  | nil => rw [List.foldl_nil, List.map_nil, State.recordedAll_nil]
  | cons x xs ih =>
    have h : s.room (xs.length + 1) := h
    rw [List.foldl_cons, same _ x rfl, Work.queue_mk _ (State.room_mono h (by omega)), ih (State.recorded_room _ _ h) same,
      List.map_cons, State.recordedAll_cons]

/-- Every intrusion closed in ascending number (R82 to R84). -/
def State.closeBodies (s : State) (why : CloseCause) (c : Int) : List EventBody :=
  s.tracker.table.map fun x => .intrusionClose x c s.ring.ringSeq why none

theorem Work.closeAll_mk {s : State} (f : Option Cause) (why : CloseCause) (c : Int)
    (h : s.room s.tracker.table.length) :
    (Work.mk s f).closeAll why c =
      { st := (s.recordedAll (s.closeBodies why c)).withTracker s.tracker.cleared, fatal := f } := by
  unfold Work.closeAll
  rw [Work.foldl_queue_mk (b := fun x => .intrusionClose x c s.ring.ringSeq why none) _ f _ h
    fun w x ring => by rw [ring]]
  rfl

/-- The FIX record of a pending fix cancelled (R99, R123). -/
def State.cancelBodies (s : State) : List EventBody :=
  match s.odo.pendingFix with
  | some f => [.fix { status := .cancelled, capture := f.capture, offset := some f.offset, beforeAfter := none,
                      isTag := (match f.origin with | .tag _ _ => true | .manual => false),
                      reference := (match f.origin with | .tag i l => some (i, l) | .manual => none) }]
  | none => []

theorem State.cancelBodies_length_le (s : State) : s.cancelBodies.length ≤ 1 := by
  unfold State.cancelBodies
  split <;> simp

theorem Work.cancelFix_mk {s : State} (f : Option Cause) (h : s.room 1) :
    (Work.mk s f).cancelFix =
      { st := (s.withOdo { s.odo with pendingFix := none }).recordedAll s.cancelBodies, fatal := f } := by
  unfold Work.cancelFix State.cancelBodies
  dsimp only
  cases pending : s.odo.pendingFix with
  | none =>
    rw [State.recordedAll_nil]
    conv_lhs => rw [show s = s.withOdo { s.odo with pendingFix := s.odo.pendingFix } from rfl, pending]
  | some x =>
    dsimp only
    rw [Work.modify_mk, Work.queue_mk _ (by exact h), State.recordedAll_cons, State.recordedAll_nil]
    cases x with
    | mk offset origin capture => cases origin <;> rfl

/-! ### Leaving RUNNING -/

/-- The state with the open ring abandoned: its slot freed and its mark recorded (R15). -/
def State.abandoned (s : State) : State :=
  let freed :=
    match s.openRing.bind RingContext.profileSlot with
    | some k => s.withLink { s.link with slots := s.link.slots.set k .free }
    | none => s
  match s.openRing with
  | some { heldMark := some m, chainage := c, .. } => freed.recorded (.mark m c .abandoned)
  | _ => freed

theorem Work.queueMark_mk {s : State} (f : Option Cause) (r : RingContext) (status : RingStatus) (h : s.room 1) :
    (Work.mk s f).queueMark r status = { st := s.marked r status, fatal := f } := by
  unfold Work.queueMark State.marked
  split
  · exact Work.queue_mk _ h
  · rfl

theorem State.dropProfile_room {s : State} {r : RingContext} {n : Nat} (h : s.room n) : (s.dropProfile r).room n := by
  rw [State.dropProfile_frame]
  exact h

theorem State.marked_room {s : State} {r : RingContext} {status : RingStatus} {n : Nat} (h : s.room (n + 1)) :
    (s.marked r status).room n := by
  unfold State.marked
  split
  · exact State.recorded_room _ _ h
  · exact State.room_mono h (by omega)

theorem State.abandoned_of_open {s : State} {r : RingContext} (opened : s.openRing = some r) :
    s.abandoned = (s.dropProfile r).marked r .abandoned := by
  unfold State.abandoned State.dropProfile State.marked
  rw [opened]
  dsimp only [Option.bind_some]
  obtain ⟨_, _, _, _, _, _, _, _, _, _, slot, mark⟩ := r
  cases slot <;> cases mark <;> rfl

theorem State.abandoned_of_none {s : State} (none : s.openRing = none) : s.abandoned = s := by
  unfold State.abandoned
  rw [none]
  rfl

theorem Work.abandonRing_mk {s : State} (f : Option Cause) (h : s.room 1) :
    (Work.mk s f).abandonRing = { st := s.abandoned, fatal := f } := by
  unfold Work.abandonRing
  dsimp only
  cases opened : s.openRing with
  | none => rw [State.abandoned_of_none opened]
  | some r =>
    rw [State.abandoned_of_open opened]
    exact Work.queueMark_mk f r _ (State.dropProfile_room h)

theorem State.abandoned_room {s : State} {n : Nat} (h : s.room (n + 1)) : s.abandoned.room n := by
  cases opened : s.openRing with
  | none =>
    rw [State.abandoned_of_none opened]
    exact State.room_mono h (by omega)
  | some r =>
    rw [State.abandoned_of_open opened]
    exact State.marked_room (State.dropProfile_room h)

/-- An abandoned ring frees its slot and queues its mark. -/
theorem State.abandoned_frame (s : State) : s.abandoned = { s with
    link := { s.link with events := s.abandoned.link.events, slots := s.abandoned.link.slots } } := by
  cases opened : s.openRing with
  | none => rw [State.abandoned_of_none opened]
  | some r =>
    rw [State.abandoned_of_open opened, State.dropProfile_frame, State.marked]
    split <;> rfl

/-- The state after the work of leaving RUNNING but for the LIVE taking (R134). -/
def State.leftBefore (s : State) : State := { s.abandoned with
  ring := { s.ring with asm := .inactive, stall := none }
  tracker := { s.tracker with alert := false }
  envelopes := s.waitingLive }

theorem State.leftRunning_eq (s : State) :
    s.leftRunning = if s.params.liveWaiting then s.leftBefore.liveTaken else s.leftBefore := rfl

theorem Work.takeLiveIfWaiting_mk {s : State} (f : Option Cause) (h : s.room 1) :
    (Work.mk s f).takeLiveIfWaiting =
      { st := if s.params.liveWaiting then s.liveTaken else s, fatal := f } := by
  unfold Work.takeLiveIfWaiting
  dsimp only
  split
  · exact Work.takeLive_mk f h
  · rfl

/-- ALERT off (R85). -/
def State.alertOff (s : State) : State := s.withTracker { s.tracker with alert := false }

theorem State.leftBefore_eq (s : State) :
    (s.abandoned.withRing { s.abandoned.ring with asm := .inactive, stall := none }).commitWaiting.alertOff =
      s.leftBefore := by
  unfold State.leftBefore
  rw [State.abandoned_frame]
  rfl

theorem State.leftBefore_params (s : State) : s.leftBefore.params = s.params := by
  unfold State.leftBefore
  rw [State.abandoned_frame]

/-- Leaving RUNNING once the open ring is abandoned (R134). -/
theorem Work.leaveRunning_mk_of_abandoned {s : State} (f : Option Cause)
    (ring : (Work.mk s f).abandonRing = { st := s.abandoned, fatal := f }) (room : s.leftBefore.room 1) :
    (Work.mk s f).leaveRunning = { st := s.leftRunning, fatal := f } := by
  change ((((Work.mk s f).abandonRing.modify fun s => s.withRing { s.ring with asm := .inactive, stall := none }).modify
    State.commitWaiting).modify State.alertOff).takeLiveIfWaiting = _
  rw [ring, Work.modify_mk, Work.modify_mk, Work.modify_mk, State.leftBefore_eq, Work.takeLiveIfWaiting_mk f room,
    State.leftBefore_params, State.leftRunning_eq]

/-- Leaving RUNNING with room in the event queue for the MARK record and the NOTICE (R134). -/
theorem Work.leaveRunning_mk {s : State} (f : Option Cause) (h : s.room 2) :
    (Work.mk s f).leaveRunning = { st := s.leftRunning, fatal := f } :=
  Work.leaveRunning_mk_of_abandoned f (Work.abandonRing_mk f (State.room_mono h (by omega))) (State.abandoned_room h)

theorem State.room_congr {s t : State} {n : Nat} (same : t.link.events = s.link.events) (h : s.room n) : t.room n := by
  unfold State.room at *
  rwa [same]

theorem State.liveTaken_room {s : State} {n : Nat} (h : s.room (n + 1)) : s.liveTaken.room n := by
  have weaker : s.room n := State.room_mono h (by omega)
  cases first : adjustedIn s.params.image .live with
  | nil =>
    rw [State.liveTaken_of_none first]
    exact State.room_congr (congrArg RecorderLink.events (State.withParams_link ..)) weaker
  | cons p ids =>
    have taken : (s.withParams s.params.liveTaken).room (n + 1) :=
      State.room_congr (congrArg RecorderLink.events (State.withParams_link ..)) h
    rw [State.liveTaken_of_first first]
    split
    · exact State.reported_room s .paramAdjusted h
    · exact State.reported_room _ .paramAdjusted taken

theorem State.leftRunning_room {s : State} {n : Nat} (h : s.room (n + 2)) : s.leftRunning.room n := by
  have room : s.leftBefore.room (n + 1) := State.abandoned_room h
  rw [State.leftRunning_eq]
  split
  · exact State.liveTaken_room room
  · exact State.room_mono room (by omega)

/-- What leaving RUNNING leaves of the state, with room in the event queue. -/
theorem State.leftRunning_leaves {s : State} (h : s.room 2) : s.Leaves s.leftRunning := by
  have leaves := (Work.of s).leaveRunning_leaves
  rwa [Work.of_eq, Work.leaveRunning_mk none h] at leaves

/-! ### With no ring open there is no MARK record -/

section
variable {s : State} (none : s.openRing = none)
include none

theorem State.leftBefore_room_of_none {n : Nat} (h : s.room n) : s.leftBefore.room n := by
  have events : s.leftBefore.link.events = s.link.events := by
    rw [State.leftBefore, State.abandoned_of_none none]
  exact State.room_congr events h

theorem Work.leaveRunning_mk_of_none (f : Option Cause) (h : s.room 1) :
    (Work.mk s f).leaveRunning = { st := s.leftRunning, fatal := f } := by
  refine Work.leaveRunning_mk_of_abandoned f ?_ (State.leftBefore_room_of_none none h)
  unfold Work.abandonRing
  dsimp only
  rw [none, State.abandoned_of_none none]

theorem State.leftRunning_room_of_none {n : Nat} (h : s.room (n + 1)) : s.leftRunning.room n := by
  have room : s.leftBefore.room (n + 1) := State.leftBefore_room_of_none none h
  rw [State.leftRunning_eq]
  split
  · exact State.liveTaken_room room
  · exact State.room_mono room (by omega)

theorem State.leftRunning_leaves_of_none (h : s.room 1) : s.Leaves s.leftRunning := by
  have leaves := (Work.of s).leaveRunning_leaves
  rwa [Work.of_eq, Work.leaveRunning_mk_of_none none .none h] at leaves

end

/-! ### Requests gone from their queue have no part in it -/

section
variable (s : State) (rest : List Request)

theorem State.withRequests_abandoned : (s.withLink { s.link with requests := rest }).abandoned =
    s.abandoned.withLink { s.abandoned.link with requests := rest } := by
  cases opened : s.openRing with
  | none =>
    rw [State.abandoned_of_none opened]
    exact State.abandoned_of_none opened
  | some r =>
    rw [State.abandoned_of_open opened]
    refine (State.abandoned_of_open (s := s.withLink { s.link with requests := rest }) opened).trans ?_
    unfold State.dropProfile State.marked
    split <;> split <;> rfl

theorem State.withRequests_leftBefore : (s.withLink { s.link with requests := rest }).leftBefore =
    s.leftBefore.withLink { s.leftBefore.link with requests := rest } := by
  unfold State.leftBefore
  rw [State.withRequests_abandoned]
  rfl

theorem State.withRequests_leftRunning : (s.withLink { s.link with requests := rest }).leftRunning =
    s.leftRunning.withLink { s.leftRunning.link with requests := rest } := by
  rw [State.leftRunning_eq, State.withRequests_leftBefore, State.withRequests_liveTaken, State.leftRunning_eq,
    State.withLink_params]
  split <;> rfl

end

end Sys2Proof.Machine
end

section
/-! SUPPORT. PAUSE, RESUME, STOP and HEAD_STALL with room in the event queue (R134 to R141). -/

namespace Sys2Proof.Machine

namespace State.Leaves

variable {s t : State} (h : s.Leaves t)
include h

theorem ring : t.ring = { s.ring with asm := .inactive, stall := none } := by rw [h.frame]
theorem tracker : t.tracker = { s.tracker with alert := false } := by rw [h.frame]
theorem odo : t.odo = s.odo := by rw [h.frame]
theorem route : t.route = s.route := by rw [h.frame]
theorem ctrl : t.ctrl = s.ctrl := by rw [h.frame]
theorem envelopes : t.envelopes = s.envelopes.map EnvelopeSlot.settleWaiting := by rw [h.frame]
theorem madeReady : t.link.madeReady = s.link.madeReady := by rw [h.frame]
theorem runSkipped : t.link.runSkipped = s.link.runSkipped := by rw [h.frame]
theorem chainage : t.chainage = s.chainage := by rw [State.chainage, h.odo, State.chainage]

end State.Leaves

/-! ### The end of a run -/

/-- The pending fix cancelled, every intrusion closed and the run summary queued (R138, R139). -/
theorem Work.closeRun_mk {u : State} (f : Option Cause) (why : CloseCause) (c : Int) (byFault : Bool)
    (h : u.room (u.tracker.table.length + 2)) :
    let w := (Work.mk u f).cancelFix.closeAll why c
    w.queue (.runSummary (w.st.runSummary byFault c)) =
      { st := ((u.withOdo { u.odo with pendingFix := none }).withTracker u.tracker.cleared).recordedAll
          (u.cancelBodies ++ u.closeBodies why c ++ [EventBody.runSummary (u.runSummary byFault c)])
        fatal := f } := by
  have one : u.room 1 := State.room_mono h (by omega)
  have cancelled : ((u.withOdo { u.odo with pendingFix := none }).recordedAll u.cancelBodies).room
      (u.tracker.table.length + 1) := by
    refine State.recordedAll_room (State.room_mono (State.room_congr rfl h) ?_)
    have := u.cancelBodies_length_le
    omega
  have closed : (((u.withOdo { u.odo with pendingFix := none }).recordedAll u.cancelBodies).recordedAll
      (u.closeBodies why c)).room 1 :=
    State.recordedAll_room (State.room_mono cancelled (by simp [State.closeBodies]))
  dsimp only
  rw [Work.cancelFix_mk f one, Work.closeAll_mk f why c (State.room_mono cancelled (Nat.le_succ _)),
    Work.queue_mk _ (by exact State.room_congr rfl closed), State.recordedAll_append, State.recordedAll_append,
    State.recordedAll_cons, State.recordedAll_nil]
  rfl

/-! ### STOP and PAUSE -/

/-- The state of a run over: no pending fix, every intrusion closed, the records of it queued after those of `u`, which
left RUNNING from `s` or is `s` (R138, R140). -/
def State.endedFrom (s u : State) (why : CloseCause) (byFault : Bool) : State :=
  ((u.withOdo { s.odo with pendingFix := none }).withTracker { u.tracker with
    table := [], sectors := Vector.replicate 256 .clear }).recordedAll
      (s.cancelBodies ++ s.closeBodies why s.chainage ++ [EventBody.runSummary (s.runSummary byFault s.chainage)])

/-- What leaving RUNNING leaves of what the records at the end of a run say. -/
structure State.SameRun (s u : State) : Prop where
  odo : u.odo = s.odo
  ctrl : u.ctrl = s.ctrl
  table : u.tracker.table = s.tracker.table
  counter : u.tracker.counter = s.tracker.counter
  ringSeq : u.ring.ringSeq = s.ring.ringSeq
  counts : u.ring.accepted = s.ring.accepted ∧ u.ring.short = s.ring.short ∧ u.ring.long = s.ring.long
  profiles : u.link.madeReady = s.link.madeReady ∧ u.link.runSkipped = s.link.runSkipped

theorem State.Leaves.sameRun {s u : State} (h : s.Leaves u) : s.SameRun u := by
  refine ⟨h.odo, h.ctrl, ?_, ?_, ?_, ⟨?_, ?_, ?_⟩, h.madeReady, h.runSkipped⟩ <;> simp only [h.tracker, h.ring]

theorem State.SameRun.refl (s : State) : s.SameRun s := ⟨rfl, rfl, rfl, rfl, rfl, ⟨rfl, rfl, rfl⟩, rfl, rfl⟩

theorem State.SameRun.ended {s u : State} (h : s.SameRun u) (why : CloseCause) (byFault : Bool) :
    ((u.withOdo { u.odo with pendingFix := none }).withTracker u.tracker.cleared).recordedAll
      (u.cancelBodies ++ u.closeBodies why s.chainage ++
        [EventBody.runSummary (u.runSummary byFault s.chainage)]) = s.endedFrom u why byFault := by
  obtain ⟨odo, ctrl, table, counter, ringSeq, ⟨accepted, short, long⟩, madeReady, runSkipped⟩ := h
  simp only [State.endedFrom, State.cancelBodies, State.closeBodies, State.runSummary, SectorTracker.cleared, odo, ctrl,
    table, counter, ringSeq, accepted, short, long, madeReady, runSkipped]

/-- STOP and fault entry have the same last part. -/
theorem Work.endRun_mk {s u : State} (f : Option Cause) (same : s.SameRun u)
    (h : u.room (s.tracker.table.length + 2)) (why : CloseCause) (byFault : Bool) (run : RunState) :
    let w := (Work.mk u f).cancelFix.closeAll why s.chainage
    (w.queue (.runSummary (w.st.runSummary byFault s.chainage))).modify (fun s => s.endRun run) =
      { st := (s.endedFrom u why byFault).endRun run, fatal := f } := by
  dsimp only
  rw [← same.ended, Work.closeRun_mk f why s.chainage byFault (by rwa [same.table]), Work.modify_mk]

/-- STOP with room in the event queue, `u` being the state once RUNNING is left (R138). -/
theorem Work.stopRun_mk {s u : State} {f : Option Cause} (same : s.SameRun u)
    (out : (if s.ctrl.run = .running then (Work.mk s f).leaveRunning else Work.mk s f) = Work.mk u f)
    (h : u.room (s.tracker.table.length + 2)) :
    (Work.mk s f).stopRun = { st := (s.endedFrom u .runEnd false).endRun .idle, fatal := f } := by
  have chainage : u.chainage = s.chainage := by rw [State.chainage, same.odo, State.chainage]
  have atEnd : ((Work.mk u f).cancelFix.closeAll .runEnd s.chainage).st.chainage = s.chainage := by
    rw [State.chainage, ((Work.mk u f).cancelFix.closeAll_frame .runEnd s.chainage).1, (Work.mk u f).cancelFix_frame.1]
    exact chainage
  unfold Work.stopRun
  rw [show (Work.mk s f).st = s from rfl, out]
  dsimp only
  rw [chainage, atEnd]
  exact Work.endRun_mk f same h .runEnd false .idle

/-! ### Fault entry -/

section
variable (s : State) (x : RunController)

theorem State.withCtrl_reported (c : Cause) : (s.withCtrl x).reported c = (s.reported c).withCtrl x := by
  have enabled : (s.withCtrl x).reports c.cls = s.reports c.cls := rfl
  simp only [State.reported, enabled, State.withCtrl_causes]
  split_ifs <;> rfl

theorem State.withCtrl_liveTaken : (s.withCtrl x).liveTaken = s.liveTaken.withCtrl x := by
  cases first : adjustedIn s.params.image .live with
  | nil =>
    rw [State.liveTaken_of_none first]
    exact State.liveTaken_of_none first
  | cons p ids =>
    rw [State.liveTaken_of_first first]
    refine (State.liveTaken_of_first (s := s.withCtrl x) first).trans ?_
    split_ifs
    · rw [State.withCtrl_reported]
      rfl
    · exact State.withCtrl_reported (s.withParams s.params.liveTaken) x .paramAdjusted

theorem State.withCtrl_abandoned : (s.withCtrl x).abandoned = s.abandoned.withCtrl x := by
  cases opened : s.openRing with
  | none =>
    rw [State.abandoned_of_none opened]
    exact State.abandoned_of_none opened
  | some r =>
    rw [State.abandoned_of_open opened]
    refine (State.abandoned_of_open (s := s.withCtrl x) opened).trans ?_
    unfold State.dropProfile State.marked
    split <;> split <;> rfl

theorem State.withCtrl_leftRunning : (s.withCtrl x).leftRunning = s.leftRunning.withCtrl x := by
  have before : (s.withCtrl x).leftBefore = s.leftBefore.withCtrl x := by
    unfold State.leftBefore
    rw [State.withCtrl_abandoned]
    rfl
  rw [State.leftRunning_eq, before, State.withCtrl_liveTaken, State.leftRunning_eq, State.withCtrl_params]
  split <;> rfl

end

/-- The state with the fault record set (R141). -/
def State.withFaultRecord (s : State) (c : Cause) : State := s.withCtrl { s.ctrl with
  faultRecord := some { cause := c, ringSeq := s.ring.ringSeq, chainage := s.chainage } }

theorem State.SameRun.withFaultRecord {s u : State} (h : s.SameRun u) (c : Cause) :
    (s.withFaultRecord c).SameRun (u.withCtrl (s.withFaultRecord c).ctrl) :=
  ⟨h.odo, rfl, h.table, h.counter, h.ringSeq, h.counts, h.profiles⟩

/-- The state after fault entry, `u` being the state once RUNNING is left. -/
theorem State.faulted_eq {s u : State} (c : Cause) (same : s.SameRun u)
    (out : u = if s.ctrl.run = .running then s.leftRunning else s) :
    s.faulted c = ((s.withFaultRecord c).endedFrom (u.withCtrl (s.withFaultRecord c).ctrl) .fault true).endRun .fault := by
  unfold State.faulted
  dsimp only
  rw [← out]
  unfold State.endedFrom State.recordedAll
  have ringSeq : (((u.withCtrl (s.withFaultRecord c).ctrl).withOdo
      { (s.withFaultRecord c).odo with pendingFix := none }).withTracker
      { (u.withCtrl (s.withFaultRecord c).ctrl).tracker with
        table := [], sectors := Vector.replicate 256 .clear }).ring.ringSeq = s.ring.ringSeq := same.ringSeq
  rw [ringSeq]
  rfl

/-- Fault entry, `u` being the state once RUNNING is left (R140). -/
theorem Work.faultEntry_mk_of_left {s u : State} (f : Option Cause) (c : Cause) (same : s.SameRun u)
    (left : u = if s.ctrl.run = .running then s.leftRunning else s)
    (out : (if s.ctrl.run = .running then (Work.mk (s.withFaultRecord c) f).leaveRunning
      else Work.mk (s.withFaultRecord c) f) = Work.mk (u.withCtrl (s.withFaultRecord c).ctrl) f)
    (room : u.room (s.tracker.table.length + 2)) : (Work.mk s f).faultEntry c = { st := s.faulted c, fatal := f } := by
  have ended := Work.endRun_mk f (same.withFaultRecord c) (State.room_congr (s := u) rfl room) .fault true .fault
  rw [State.faulted_eq c same left, ← ended, ← out]
  rfl

/-- Fault entry with room in the event queue (R140). -/
theorem Work.faultEntry_mk {s : State} (f : Option Cause) (c : Cause) (h : s.room (s.tracker.table.length + 4)) :
    (Work.mk s f).faultEntry c = { st := s.faulted c, fatal := f } := by
  have two : s.room 2 := State.room_mono h (by omega)
  by_cases run : s.ctrl.run = .running
  · refine Work.faultEntry_mk_of_left f c (State.leftRunning_leaves two).sameRun (if_pos run).symm ?_
      (State.leftRunning_room h)
    rw [if_pos run, Work.leaveRunning_mk (s := s.withFaultRecord c) f (State.room_congr (s := s) rfl two)]
    exact congrArg (Work.mk · f) (s.withCtrl_leftRunning _)
  · refine Work.faultEntry_mk_of_left f c (.refl s) (if_neg run).symm ?_ (State.room_mono h (by omega))
    rw [if_neg run]
    rfl

/-- Fault entry from RUNNING with no ring open: there is no MARK record (R140). -/
theorem Work.faultEntry_mk_of_none {s : State} (f : Option Cause) (c : Cause) (run : s.ctrl.run = .running)
    (none : s.openRing = none) (h : s.room (s.tracker.table.length + 3)) :
    (Work.mk s f).faultEntry c = { st := s.faulted c, fatal := f } := by
  have one : s.room 1 := State.room_mono h (by omega)
  refine Work.faultEntry_mk_of_left f c (State.leftRunning_leaves_of_none none one).sameRun (if_pos run).symm ?_
    (State.leftRunning_room_of_none none h)
  rw [if_pos run, Work.leaveRunning_mk_of_none (s := s.withFaultRecord c) none f (State.room_congr (s := s) rfl one)]
  exact congrArg (Work.mk · f) (s.withCtrl_leftRunning _)

/-- A fatal cause taken with room in the event queue (R140). -/
theorem Work.settle_mk_fatal {s : State} {c : Cause} (run : s.ctrl.run = .running)
    (h : s.room (s.tracker.table.length + 4)) : (Work.mk s (some c)).settle = { st := s.faulted c, fatal := none } := by
  unfold Work.settle
  dsimp only
  rw [if_pos (.inl run), Work.faultEntry_mk _ c h]

/-- The same with no ring open. -/
theorem Work.settle_mk_fatal_of_none {s : State} {c : Cause} (run : s.ctrl.run = .running) (none : s.openRing = none)
    (h : s.room (s.tracker.table.length + 3)) : (Work.mk s (some c)).settle = { st := s.faulted c, fatal := .none } := by
  unfold Work.settle
  dsimp only
  rw [if_pos (.inl run), Work.faultEntry_mk_of_none _ c run none h]

end Sys2Proof.Machine
end

section
/-! SUPPORT. PAUSE, RESUME, STOP and HEAD_STALL (R134 to R141). -/

namespace Sys2Proof.Machine

/-! ### What a LIVE taking and a report leave of the output side -/

theorem State.reported_events (s : State) (c : Cause) : s.link.events <+: (s.reported c).link.events := by
  unfold State.reported
  split
  · exact List.prefix_rfl
  · split
    · exact List.prefix_append _ _
    · exact List.prefix_rfl

theorem State.reported_slots (s : State) (c : Cause) : (s.reported c).link.slots = s.link.slots := by
  rw [State.reported_frame]

theorem State.liveTaken_events (s : State) : s.link.events <+: s.liveTaken.link.events := by
  cases first : adjustedIn s.params.image .live with
  | nil =>
    rw [State.liveTaken_of_none first]
    exact List.prefix_rfl
  | cons p ids =>
    rw [State.liveTaken_of_first first]
    split
    · exact s.reported_events .paramAdjusted
    · exact (s.withParams s.params.liveTaken).reported_events .paramAdjusted

theorem State.liveTaken_slots (s : State) : s.liveTaken.link.slots = s.link.slots := by
  cases first : adjustedIn s.params.image .live with
  | nil => rw [State.liveTaken_of_none first, State.withParams_link]
  | cons p ids =>
    rw [State.liveTaken_of_first first]
    split
    · exact s.reported_slots .paramAdjusted
    · exact (s.withParams s.params.liveTaken).reported_slots .paramAdjusted

theorem State.leftRunning_events (s : State) : s.abandoned.link.events <+: s.leftRunning.link.events := by
  rw [State.leftRunning_eq]
  split
  · exact s.leftBefore.liveTaken_events
  · exact List.prefix_rfl

theorem State.leftRunning_slots (s : State) : s.leftRunning.link.slots = s.abandoned.link.slots := by
  rw [State.leftRunning_eq]
  split
  · exact s.leftBefore.liveTaken_slots
  · rfl

theorem State.openRing_of_opened {s : State} {r : RingContext} (opened : s.ring.asm = .opened r) :
    s.openRing = some r := by
  rw [State.openRing, opened]

theorem State.mark_mem_abandoned {s : State} {r : RingContext} {m : HeldMark} (opened : s.ring.asm = .opened r)
    (held : r.heldMark = some m) :
    ({ ringSeq := s.ring.ringSeq, body := .mark m r.chainage .abandoned } : EventRecord) ∈ s.abandoned.link.events := by
  rw [State.abandoned_of_open (State.openRing_of_opened opened), State.marked, held, State.dropProfile_frame]
  exact List.mem_append_right _ (List.mem_singleton_self _)

theorem State.abandoned_slots (s : State) (k : Fin 3) : s.abandoned.link.slots[k] =
    if s.openRing.bind RingContext.profileSlot = some k then .free else s.link.slots[k] := by
  cases opened : s.openRing with
  | none =>
    rw [State.abandoned_of_none opened]
    rfl
  | some r =>
    have slots : ((s.dropProfile r).marked r .abandoned).link.slots = (s.dropProfile r).link.slots := by
      unfold State.marked
      split <;> rfl
    rw [State.abandoned_of_open opened, slots, Option.bind_some]
    unfold State.dropProfile
    cases r.profileSlot with
    | none => rfl
    | some j =>
      refine (getElem_set_fin _ _ _ _).trans ?_
      simp only [Option.some.injEq]

/-- PAUSE with room in the event queue (R135). -/
theorem Work.pauseRun_mk {s : State} (f : Option Cause) (h : s.room 2) :
    (Work.mk s f).pauseRun = { st := s.leftRunning.withCtrl { s.ctrl with
      run := .paused, chainageAtPause := some s.chainage }, fatal := f } := by
  have leaves := State.leftRunning_leaves h
  unfold Work.pauseRun
  rw [Work.leaveRunning_mk f h, Work.modify_mk, leaves.ctrl, leaves.chainage]

/-! ### The obligations -/

/-- Settles O51: PAUSE is the work of leaving RUNNING and the run state. -/
theorem pauseLeavesRunning : Obligations.PauseLeavesRunning := by
  intro s r rest ho hp run room
  have leaves := State.leftRunning_leaves room
  refine ⟨?_, leaves.ring, leaves.tracker, leaves.odo, leaves.route, leaves.params.image, fun k => ?_,
    fun ring m opened held => ?_, fun k => ?_⟩
  · change exec (performingCommand (some .pause)) s = _
    rw [ho.exec_eq]
    have body : ∀ w : Work, w.st.ctrl.run = .running → RequestKind.pause.body r w = w.pauseRun.finish r [] :=
      fun w run => by simp only [RequestKind.body, Machine.pause, hp, run, if_true]
    rw [body _ run, Work.pauseRun_mk (s := s.withLink { s.link with requests := rest }) none
      (State.room_congr (s := s) rfl room), State.withRequests_leftRunning]
    exact Work.finish_done (s.leftRunning.withCtrl _) r rest []
  · rw [leaves.envelopes, getElem_map_fin]
    rfl
  · exact s.leftRunning_events.mem (State.mark_mem_abandoned opened held)
  · rw [State.leftRunning_slots]
    exact s.abandoned_slots k

/-! ### RESUME -/

theorem distance_eq (a b : Int) : (distance a b : Int) = |a - b| := Int.natCast_natAbs _

/-- The gap close of RESUME (R137). -/
theorem Work.gapClose_of_gap {s : State} (f : Option Cause) {c : Int} (atPause : s.ctrl.chainageAtPause = some c)
    (gap : (s.effNat Param.maxGap : Int) < |s.chainage - c|) (h : s.room s.tracker.table.length) :
    (Work.mk s f).gapClose =
      { st := (s.recordedAll (s.closeBodies .gap c)).withTracker s.tracker.cleared, fatal := f } := by
  have found : s.gapFrom c = true := by
    rw [State.gapFrom, decide_eq_true_eq]
    rw [← distance_eq] at gap
    omega
  unfold Work.gapClose
  dsimp only
  rw [atPause]
  dsimp only
  rw [if_pos found, Work.closeAll_mk f .gap c h]

theorem Work.gapClose_of_no_gap {s : State} (f : Option Cause) {c : Int} (atPause : s.ctrl.chainageAtPause = some c)
    (near : |s.chainage - c| ≤ s.effNat Param.maxGap) : (Work.mk s f).gapClose = { st := s, fatal := f } := by
  have found : ¬ s.gapFrom c = true := by
    rw [State.gapFrom, decide_eq_true_eq]
    rw [← distance_eq] at near
    omega
  unfold Work.gapClose
  dsimp only
  rw [atPause]
  exact if_neg found

/-- Settles O52: the lock first, then the gap test. -/
theorem resumeReturns : Obligations.ResumeReturns := by
  intro s r rest c ho hp run atPause ring ctrl
  have resumes : ∀ w : Work, w.st.ctrl.run = .paused → RequestKind.resume.body r w =
      if w.st.head.lock = .locked then (w.gapClose.modify State.resumeRun).finish r [] else w.refuse r .headUnlocked none :=
    fun w run => by simp only [RequestKind.body, Machine.resume, hp, run, if_true]
  refine ⟨fun searching room => ?_, fun locked near => ?_, fun locked gap room => ?_⟩
  · change exec (performingCommand (some .resume)) s = _
    rw [ho.exec_of_refuse room (why := .headUnlocked) (index := none)]
    · rfl
    · rw [resumes _ run, if_neg (by rw [State.withLink_head, searching]; nofun)]
  · change exec (performingCommand (some .resume)) s = _
    rw [ho.exec_eq, resumes _ run, if_pos (by exact locked),
      Work.gapClose_of_no_gap (s := s.withLink { s.link with requests := rest }) none atPause near]
    rfl
  · change exec (performingCommand (some .resume)) s = _
    rw [ho.exec_eq, resumes _ run, if_pos (by exact locked),
      Work.gapClose_of_gap (s := s.withLink { s.link with requests := rest }) none atPause gap
        (State.room_congr (s := s) rfl room), State.recordedAll, State.closeBodies, List.map_map]
    rfl

/-! ### STOP -/

/-- The state at the end of a run, with the run's own ring sequence and control values. -/
theorem State.SameRun.endedFrom_endRun {s u : State} (h : s.SameRun u) (why : CloseCause) (byFault : Bool)
    (run : RunState) : (s.endedFrom u why byFault).endRun run =
      (((u.withOdo { s.odo with pendingFix := none }).withTracker { u.tracker with
        table := [], sectors := Vector.replicate 256 .clear }).withCtrl { s.ctrl with
        run := run, chainageAtPause := none }).withLink { u.link with
        events := u.link.events ++ (s.cancelBodies ++ s.closeBodies why s.chainage ++
          [EventBody.runSummary (s.runSummary byFault s.chainage)]).map fun b =>
            { ringSeq := s.ring.ringSeq, body := b } } := by
  rw [← h.ctrl, ← h.ringSeq]
  rfl

/-- Settles O53: RUNNING is left first, then the records of the end of the run are queued. -/
theorem stopEndsRun : Obligations.StopEndsRun := by
  intro s r rest ho hp summary closes cancelled ended
  have stops : ∀ w : Work, w.st.ctrl.run = .running ∨ w.st.ctrl.run = .paused →
      RequestKind.stop.body r w = w.stopRun.finish r [] :=
    fun w run => by simp only [RequestKind.body, Machine.stop, hp, run, if_true]
  refine ⟨fun run room => ?_, fun run room => ?_⟩
  · change exec (performingCommand (some .stop)) s = _
    rw [ho.exec_eq, stops _ (.inr run), Work.stopRun_mk (s := s.withLink { s.link with requests := rest }) (.refl _)
      (if_neg (by rw [State.withLink_ctrl, run]; nofun)) (State.room_congr (s := s) rfl room)]
    rfl
  · have two : s.room 2 := State.room_mono room (by omega)
    have leaves := State.leftRunning_leaves two
    have left := Work.leaveRunning_mk (s := s.withLink { s.link with requests := rest }) none
      (State.room_congr (s := s) rfl two)
    rw [State.withRequests_leftRunning] at left
    have same := leaves.sameRun
    change exec (performingCommand (some .stop)) s = _
    rw [ho.exec_eq, stops _ (.inl run), Work.stopRun_mk (s := s.withLink { s.link with requests := rest })
      (u := s.leftRunning.withLink { s.leftRunning.link with requests := rest })
      ⟨same.odo, same.ctrl, same.table, same.counter, same.ringSeq, same.counts, same.profiles⟩
      ((if_pos run).trans left) (State.room_congr (s := s.leftRunning) rfl (State.leftRunning_room room))]
    refine (Work.finish_done ((s.endedFrom s.leftRunning .runEnd false).endRun .idle) r rest []).trans ?_
    rw [same.endedFrom_endRun]
    rfl

end Sys2Proof.Machine
end

section
/-! SUPPORT. HEAD_STALL (R14, R140). -/

namespace Sys2Proof.Machine

/-- A fatal cause in RUNNING with room for its NOTICE (R140, R178). -/
theorem Work.raise_mk_fatal {s : State} {c : Cause} (hc : c.cls = .fatal) (run : s.ctrl.run = .running)
    (h : s.room 1) : (Work.mk s none).raise c = { st := s.reported c, fatal := some c } := by
  have marked : (Work.mk s none).markFatal c = { st := s, fatal := some c } := if_pos ⟨.inl run, rfl⟩
  unfold Work.raise State.reported
  rw [if_pos hc, marked]
  dsimp only
  split
  · rfl
  · by_cases enabled : s.reports c.cls = true
    · rw [if_pos enabled]
      refine (if_pos (by exact enabled)).trans ?_
      exact Work.queue_mk (s := s.withCauses (setFlag s.causes c)) _ (State.room_congr rfl h)
    · rw [if_neg enabled]
      exact if_neg (by exact enabled)

/-- A step under way with a fatal cause in hand enters FAULT (R140). -/
theorem Work.settle_of_fatal {w : Work} {c : Cause} (fatal : w.fatal = some c)
    (run : w.st.ctrl.run = .running ∨ w.st.ctrl.run = .paused) : w.st.Faulted c w.settle.st := by
  have entered := Work.settle_faulted (c := c) run
  rwa [← fatal] at entered

/-- HEAD_STALL raised with the timer stopped (R14). -/
def State.stalling (s : State) : Work :=
  ((Work.of s).modify fun s => s.withRing { s.ring with stall := none }).raise .headStall

theorem State.stalling_reports (s : State) :
    (s.withRing { s.ring with stall := none }).Reports s.stalling.st ∧ flagSet s.stalling.st.causes .headStall = true := by
  let w := (Work.of s).modify fun s => s.withRing { s.ring with stall := none }
  exact ⟨w.raise_reports .headStall, w.raise_flag .headStall⟩

theorem execHeadStall_of_running {s : State} (timing : s.ring.stall.isSome = true) :
    exec .headStall s = .next s.stalling.settle.st := if_pos timing

/-- Settles O24: the timer stopped, the cause raised and fault entry. -/
theorem headStallEndsRun : Obligations.HeadStallEndsRun := by
  intro s
  refine ⟨fun timing run => ⟨_, execHeadStall_of_running timing, ?_⟩, fun timing run room => ?_, fun stopped => ?_⟩
  · obtain ⟨raised, flagged⟩ := s.stalling_reports
    have still : s.stalling.st.ctrl.run = .running := by rw [raised.ctrl, State.withRing_ctrl, run]
    have fatal : s.stalling.fatal = some .headStall := Work.raise_fatal rfl (.inl run) rfl
    have faulted := Work.settle_of_fatal fatal (.inl still)
    have ctrl := faulted.ctrl
    have ring := faulted.ring
    have tracker := faulted.tracker
    have odo := faulted.odo
    have frame := faulted.frame
    rw [if_pos still, raised.ring] at ring
    rw [if_pos still, raised.tracker] at tracker
    rw [raised.odo] at odo
    rw [State.chainage, raised.ring, raised.odo] at ctrl
    refine ⟨?_, ?_, ring, ?_, fun i => ?_, ?_, odo, faulted.flags _ flagged, ?_⟩
    · rw [ctrl]
    · rw [ctrl]
      rfl
    · rw [tracker]
    · rw [tracker]
      exact getElem_replicate_fin _ _
    · rw [tracker]
    · rw [frame, raised.frame]
      rfl
  · have raised := Work.raise_mk_fatal (s := s.withRing { s.ring with stall := none }) (c := .headStall) rfl run
      (State.room_congr (s := s) rfl (State.room_mono room (by omega)))
    have settled := Work.settle_mk_fatal (s := (s.withRing { s.ring with stall := none }).reported .headStall)
      (c := .headStall) (by rw [State.reported_ctrl]; exact run)
      (State.reported_room _ _ (State.room_congr (s := s) rfl (by rw [State.reported_tracker]; exact room)))
    rw [execHeadStall_of_running timing]
    exact congrArg Host.Outcome.next (congrArg Work.st ((congrArg Work.settle raised).trans settled))
  · exact if_neg (by rw [stopped]; nofun)

end Sys2Proof.Machine
end

section
/-! SUPPORT. The resets: the power-on state, the list of what a taking adjusts, and a RESET taking effect. -/

namespace Sys2Proof.Machine

/-! ### The power-on state -/

/-- Settles O6: the state after a power-on reset, predicate by predicate. -/
theorem resetIsGood : Obligations.ResetIsGood := by
  have clear : ∀ i : Sector, State.reset.tracker.sectors[i] = .clear := fun i => getElem_replicate_fin _ i
  have empty : ∀ i : Sector, State.reset.tracker.accumulators[i] = .empty := fun i => getElem_replicate_fin _ i
  have slots : ∀ k : SlotId, State.reset.envelopes[k] = .empty := fun k => getElem_replicate_fin _ k
  refine ⟨⟨by decide, by decide, by decide, by decide, by decide⟩,
    (State.runCoherent_iff _).2 State.reset_outline_runCoherent, fun k => ?_, State.reset_accumulatorInRange,
    State.reset_effectAdmitted, SectorTracker.owned_of_cleared rfl rfl, SectorTracker.spans_of_cleared rfl,
    ⟨nofun, fun i k st streak => ?_, fun i h => ?_⟩, fun i => ?_,
    (State.profilesCoherent_iff _).2 State.reset_outline_profiles⟩
  · rw [slots]
    exact ⟨nofun, fun _ => rfl⟩
  · rw [clear] at streak
    exact Persistence.sunk_clear k st streak
  · rw [empty] at h
    cases h
  · rw [clear]
    exact Persistence.countBelow_clear _ _

theorem State.reset_window : (State.reset.ring.tMin, State.reset.ring.tMax) = State.reset.windowOf := by decide

/-- Settles O13: the values of R18's list as `State.reset` holds them. -/
theorem powerOnHeadAndRing : Obligations.PowerOnHeadAndRing := fun _ =>
  ⟨_, rfl, rfl, rfl, rfl, rfl, rfl, rfl, rfl, rfl, rfl, rfl, State.reset_window, rfl, rfl, rfl, fun _ => BitVec.getLsbD_zero⟩

/-! ### The list of what a taking adjusts -/

/-- What a store lists of a list of adjusted ids: the first eight, and how many more there are (R153). -/
structure ParamStore.Lists (ps : ParamStore) (ids : List Nat) : Prop where
  listed : ps.adjustedIds = ids.take 8
  further : ps.further = ids.length - 8

theorem ParamStore.Lists.takeOne {ps : ParamStore} {ids : List Nat} (h : ps.Lists ids) (few : ids.length < 263)
    (p : ParamId) : (ps.takeOne p).Lists (if (adjusted ps.image p).2 then ids ++ [idNumber p] else ids) := by
  obtain ⟨listed, further⟩ := h
  unfold ParamStore.takeOne ParamStore.listAdjusted
  dsimp only
  by_cases adj : (adjusted ps.image p).2 = true
  · rw [if_pos adj, if_pos adj, listed]
    have length : (ids.take 8).length = min 8 ids.length := List.length_take
    by_cases room : ids.length < 8
    · rw [if_pos (by rw [length]; exact lt_of_le_of_lt (Nat.min_le_right _ _) room)]
      constructor
      · simp only [List.take_of_length_le room.le, List.take_of_length_le (show (ids ++ [idNumber p]).length ≤ 8 by
          simpa using room)]
      · simp only [further, List.length_append, List.length_singleton]
        omega
    · rw [if_neg (by rw [length]; show ¬ min 8 ids.length < 8; omega)]
      constructor
      · simp only [List.take_append_of_le_length (Nat.not_lt.1 room)]
      · simp only [further, List.length_append, List.length_singleton, satInc]
        rw [if_pos (by omega)]
        omega
  · rw [if_neg adj, if_neg adj]
    exact ⟨listed, further⟩

/-- A taking lists what it adjusts, in the order it takes (R153). -/
theorem ParamStore.Lists.foldl_takeOne {ps : ParamStore} {listed : List Nat} (h : ps.Lists listed) (ids : List ParamId)
    (few : listed.length + ids.length < 263) :
    (ids.foldl ParamStore.takeOne ps).Lists
      (listed ++ (ids.filter fun p => (adjusted ps.image p).2).map idNumber) := by
  induction ids generalizing ps listed with
  | nil => simpa using h
  | cons p ids ih =>
    rw [List.length_cons] at few
    rw [List.foldl_cons, List.filter_cons]
    have one := h.takeOne (by omega) p
    split at one
    · next adj =>
      have all := ih one (by rw [List.length_append, List.length_singleton]; omega)
      rw [ParamStore.takeOne_image] at all
      rw [if_pos adj]
      simpa using all
    · next adj =>
      have all := ih one (by omega)
      rw [ParamStore.takeOne_image] at all
      rw [if_neg adj]
      exact all

/-! ### A RESET that takes effect -/

theorem ParamStore.takeAll_lists (ps : ParamStore) :
    ps.takeAll.Lists (((List.finRange 46).filter fun p => (adjusted ps.image p).2).map fun p => p.val + 1) := by
  have every : idsOf ParamClass.any = List.finRange 46 := List.filter_eq_self.2 fun _ _ => rfl
  have begun : ({ ps with adjustedIds := [], further := 0, liveWaiting := false } : ParamStore).Lists [] := ⟨rfl, rfl⟩
  have lists := begun.foldl_takeOne (idsOf ParamClass.any) (by rw [every]; decide)
  rw [every] at lists
  unfold ParamStore.takeAll
  rw [every]
  exact lists

/-- Settles O15: with no such response nothing happens, and with one the state is `State.afterReset`. -/
theorem resetTakesEffect : Obligations.ResetTakesEffect := by
  intro s
  refine ⟨fun idle => if_neg ?_, fun x r rest agent tx source queue kind result => ?_⟩
  · rcases idle with other | idle
    · cases agent : s.link.agent <;> simp_all [State.resetDue]
    · rw [State.resetDue_of_none idle]
      nofun
  · intro ids
    have due := (State.resetDue_of_response tx source queue).2 ⟨agent, kind, result⟩
    obtain ⟨image, waiting, effect, -⟩ := ParamStore.foldl_takeOne (idsOf ParamClass.any)
      { s.params with adjustedIds := [], further := 0, liveWaiting := false }
    obtain ⟨listed, further⟩ := s.params.takeAll_lists
    have slots : ∀ k : SlotId, s.afterReset.envelopes[k] = s.envelopes[k].dropPending := fun k => getElem_map_fin _ _ k
    refine ⟨s.afterReset, if_pos due, if_pos due, image, fun p => ?_, waiting, listed, ?_, fun k => ?_, rfl, rfl, rfl, rfl,
      rfl, rfl, rfl, rfl, rfl, rfl, rfl, rfl, rfl, rfl, rfl, rfl, fun _ => BitVec.getLsbD_zero⟩
    · exact (effect p).trans (if_pos ((mem_idsOf _ p).2 rfl))
    · exact further.trans (by rw [List.length_map])
    · rw [slots]
      exact ⟨rfl, rfl, rfl⟩

end Sys2Proof.Machine
end

section
/-! SUPPORT. START (R132): the RUN taking and the state it begins the run from. -/

namespace Sys2Proof.Machine

/-! ### A step under way outside a run has no fatal cause in hand -/

section
variable {w : Work} (idle : w.st.ctrl.run = .idle)
include idle

theorem Work.markFatal_of_idle (c : Cause) : w.markFatal c = w := if_neg (by simp [idle])

theorem Work.queue_fatal_of_idle (b : EventBody) : (w.queue b).fatal = w.fatal := by
  unfold Work.queue Work.lose
  split
  · rfl
  · rw [Work.markFatal_of_idle idle]
    rfl

theorem Work.raise_fatal_of_idle (c : Cause) : (w.raise c).fatal = w.fatal := by
  unfold Work.raise
  rw [Work.markFatal_of_idle idle, ite_self]
  dsimp only
  split
  · rfl
  · split
    · exact Work.queue_fatal_of_idle (w := w.modify fun s => s.withCauses (setFlag s.causes c)) idle _
    · rfl

theorem Work.takeOne_fatal_of_idle (p : ParamId) : (Work.takeOne true w p).fatal = w.fatal := by
  unfold Work.takeOne Work.raiseIf
  dsimp only
  split
  · exact Work.raise_fatal_of_idle (w := w.modify fun s => s.withParams (s.params.takeOne p)) idle _
  · rfl

end

theorem Work.foldl_takeOne_fatal_of_idle (ids : List ParamId) {w : Work} (idle : w.st.ctrl.run = .idle) :
    (ids.foldl (Work.takeOne true) w).fatal = w.fatal := by
  induction ids generalizing w with
  | nil => rfl
  | cons p ids ih =>
    rw [List.foldl_cons, ih (by rw [(Work.takeOne_takes true w p).ctrl, idle]), Work.takeOne_fatal_of_idle idle]

/-! ### The RUN taking -/

/-- The store after a full RUN taking (R150, R153). -/
def ParamStore.runTaken (ps : ParamStore) : ParamStore :=
  let ids := adjustedIn ps.image .run
  { ps with effect := ps.taken .run, adjustedIds := (ids.map idNumber).take 8, further := ids.length - 8 }

/-- The store as a full RUN taking begins (R153). -/
def ParamStore.runBegun (ps : ParamStore) : ParamStore := { ps with adjustedIds := [], further := 0 }

theorem adjustedIn_run (image : Vector Int 46) :
    adjustedIn image .run = (idsOf ParamClass.isRun).filter fun p => (adjusted image p).2 := by
  rw [adjustedIn, idsOf, List.filter_filter]
  exact List.filter_congr fun p _ => Bool.and_comm _ _

theorem ParamStore.foldl_takeOne_run (ps : ParamStore) :
    (idsOf ParamClass.isRun).foldl ParamStore.takeOne ps.runBegun = ps.runTaken := by
  have begun : ps.runBegun.Lists [] := ⟨rfl, rfl⟩
  obtain ⟨listed, further⟩ := begun.foldl_takeOne (idsOf ParamClass.isRun) (by decide)
  obtain ⟨image, waiting, effects, -⟩ := ParamStore.foldl_takeOne (idsOf ParamClass.isRun) ps.runBegun
  have effect : ((idsOf ParamClass.isRun).foldl ParamStore.takeOne ps.runBegun).effect = ps.taken .run := by
    refine Vector.ext fun i hi => ?_
    have at_i := effects ⟨i, hi⟩
    simp only [Fin.getElem_fin, mem_idsOf, ParamClass.isRun, decide_eq_true_eq] at at_i
    simpa [ParamStore.taken, ParamStore.runBegun] using at_i
  rw [List.nil_append, show ps.runBegun.image = ps.image from rfl, ← adjustedIn_run] at listed further
  rw [List.length_map] at further
  generalize (idsOf ParamClass.isRun).foldl ParamStore.takeOne ps.runBegun = after at *
  obtain ⟨_, _, _, _, _⟩ := after
  simp only at image waiting effect listed further
  rw [image, waiting, effect, listed, further]
  rfl

/-- The RUN taking with room for its NOTICE: report_enable is not of its class (R153, R178). -/
theorem Work.takeRunClass_mk {s : State} (f : Option Cause) (h : s.room 1) :
    (Work.mk s f).take ParamClass.isRun true =
      { st := (if adjustedIn s.params.image .run = [] then s else s.reported .paramAdjusted).withParams s.params.runTaken
        fatal := f } := by
  have listed := adjustedIn_run s.params.image
  change (idsOf ParamClass.isRun).foldl (Work.takeOne true) (Work.mk (s.withParams s.params.runBegun) f) = _
  cases first : adjustedIn s.params.image .run with
  | nil =>
    have silent : ∀ p ∈ idsOf ParamClass.isRun, (adjusted s.params.image p).2 = false := by
      simpa [first] using listed.symm
    rw [Work.foldl_takeOne_of_silent _ (s.withParams s.params.runBegun) f (.inr silent), State.withParams_params,
      ParamStore.foldl_takeOne_run, State.withParams_withParams, if_pos rfl]
  | cons p rest =>
    obtain ⟨before, after, split, hbefore, hp, -⟩ := List.filter_eq_cons_iff.1 (listed.symm.trans first)
    have quiet : ∀ q ∈ before, (adjusted s.params.image q).2 = false := fun q hq => by simpa using hbefore q hq
    have other : Param.reportEnable ∉ before ++ [p] := fun mem => by
      have listed : Param.reportEnable ∈ idsOf ParamClass.isRun := by
        rw [split]
        simp only [List.mem_append, List.mem_cons] at mem ⊢
        tauto
      revert listed
      decide
    have enable : ((before ++ [p]).foldl ParamStore.takeOne s.params.runBegun).effect[Param.reportEnable] =
        s.eff Param.reportEnable := by
      rw [ParamStore.foldl_takeOne_effect, if_neg other]
      rfl
    rw [split, Work.foldl_takeOne_of_first (s := s.withParams s.params.runBegun) f h quiet hp, ← split,
      State.withParams_params, ParamStore.foldl_takeOne_run, State.withParams_withParams,
      State.withParams_reported _ enable, State.withParams_withParams, if_neg (List.cons_ne_nil _ _)]

/-! ### The start of a run -/

/-- What START does to the state once the RUN class is taken (R132). -/
def State.begun (s v : State) (n : Int) : State :=
  ((((v.withFilters (v.filters.afterTaking (v.eff Param.wheelFilter ≠ s.eff Param.wheelFilter)
    (v.eff Param.inputConstant ≠ s.eff Param.inputConstant))).startRing.startSectors).startTravel n).startRun n)

/-- What START makes of each block (R132). -/
theorem State.begun_eq (s v : State) (n : Int) : s.begun v n = { v with
    filters := v.filters.afterTaking (v.eff Param.wheelFilter ≠ s.eff Param.wheelFilter)
      (v.eff Param.inputConstant ≠ s.eff Param.inputConstant)
    ring := { asm := .waiting, ringSeq := 0, discards := 0, tMin := v.windowOf.1, tMax := v.windowOf.2,
              stall := some v.stallExpiry, accepted := 0, short := 0, long := 0 }
    tracker := { v.tracker.cleared.emptied with counter := 1 }
    envelopes := v.envelopes.map EnvelopeSlot.settleWaiting
    odo := { v.odo.setTo n with spacingRef := none }
    route := { v.route with current := lookup v.route.entries n, lastApplied := none }
    link := { v.link with skipped := 0, madeReady := 0, runSkipped := 0 }
    ctrl := { v.ctrl with run := .running, startChainage := some n, chainageAtPause := none } } := rfl

/-- START leaves the rest of the state (R132). -/
theorem State.begun_frame {s v t : State} {n : Int} (ht : t = s.begun v n) : t = { v with
    filters := t.filters, ring := t.ring, tracker := t.tracker, envelopes := t.envelopes, odo := t.odo, route := t.route
    ctrl := t.ctrl, link := { v.link with skipped := 0, madeReady := 0, runSkipped := 0 } } := by
  rw [State.begun_eq] at ht
  subst ht
  rfl

/-- A filter restarts with the value that governs it (R88, R112). -/
theorem Filters.get_afterTaking (f : Filters) (wheel input : Bool) (i : InputPin) :
    (f.afterTaking wheel input).get i = { f.get i with
      runCount :=
        if (match i with
          | .tagStb | .markKey => input
          | .whlA | .whlB | .whrA | .whrB => wheel) = true then 0 else (f.get i).runCount } := by
  cases i <;> cases wheel <;> cases input <;> rfl

/-- The RUN taking outside a run: no fatal cause in hand, and what it leaves of the state (R150, R153). -/
theorem Work.takeRunClass_of_idle {s : State} (idle : s.ctrl.run = .idle) : ∃ v : State,
    (Work.of s).take ParamClass.isRun true = Work.of v ∧ s.Takes v ∧ v.params = s.params.runTaken ∧
    (s.room 1 → v =
      (if adjustedIn s.params.image .run = [] then s else s.reported .paramAdjusted).withParams s.params.runTaken) := by
  have takes := Work.take_takes (Work.of s) ParamClass.isRun true
  have fatal : ((Work.of s).take ParamClass.isRun true).fatal = none := by
    rw [Work.take, Work.foldl_takeOne_fatal_of_idle (idsOf ParamClass.isRun) (by exact idle)]
    rfl
  have params : ((Work.of s).take ParamClass.isRun true).st.params = s.params.runTaken := by
    rw [Work.take, Work.foldl_takeOne_params]
    exact s.params.foldl_takeOne_run
  have room := fun h => congrArg Work.st (Work.takeRunClass_mk (s := s) none h)
  rw [← Work.of_eq] at room
  generalize (Work.of s).take ParamClass.isRun true = w at takes fatal params room
  exact ⟨w.st, Work.eq_of_st fatal, takes, params, room⟩

/-- An accepted START (R132). -/
theorem State.Offers.exec_start {s : State} {r : Request} {rest : List Request} {v0 v1 v2 v3 : Byte}
    (ho : s.Offers .start r rest) (hp : r.payload = [v0, v1, v2, v3]) (idle : s.ctrl.run = .idle)
    (locked : s.head.lock = .locked) (valid : firstOffending s.route.entries = none) {s' v : State}
    (hs' : s' = s.withLink { s.link with requests := rest })
    (taken : (Work.of s').take ParamClass.isRun true = Work.of v) {t : State}
    (ht : t = s'.begun v (readSigned [v0, v1, v2, v3])) :
    exec .start s = .next (t.withLink { t.link with responses := t.link.responses ++ [doneTo r []] }) := by
  have body : ∀ w : Work, w.st.ctrl.run = .idle → w.st.head.lock = .locked → firstOffending w.st.route.entries = none →
      RequestKind.start.body r w = (w.startAt (readSigned [v0, v1, v2, v3])).finish r [] := by
    intro w idle locked valid
    simp [RequestKind.body, Machine.start, hp, idle, locked, valid]
  have started : (Work.of s').startAt (readSigned [v0, v1, v2, v3]) = Work.of t := by
    unfold Work.startAt Work.takeRun
    rw [taken, ht]
    rfl
  change exec (performingCommand (some .start)) s = _
  rw [ho.exec_eq, body _ idle locked valid, ← hs', ← Work.of_eq, started]
  rfl

/-- Settles O49: the RUN taking, then the run-local state block by block. -/
theorem startBeginsRun : Obligations.StartBeginsRun := by
  intro s r rest v0 v1 v2 v3 ho hp idle locked valid ids told
  obtain ⟨s', hs'⟩ : ∃ s', s' = s.withLink { s.link with requests := rest } := ⟨_, rfl⟩
  obtain ⟨v, taken, takes, params, reports⟩ := Work.takeRunClass_of_idle (s := s') (by rw [hs']; exact idle)
  obtain ⟨t, ht⟩ : ∃ t, t = s'.begun v (readSigned [v0, v1, v2, v3]) := ⟨_, rfl⟩
  refine ⟨_, ho.exec_start hp idle locked valid hs' taken ht, ?_⟩
  have after := State.begun_frame ht
  rw [State.begun_eq] at ht
  have frame := takes.frame
  have store : v.params = s.params.runTaken := by rw [params, hs', State.withLink_params]
  have same : t.params = v.params := by rw [ht]
  have eff : ∀ p, t.eff p = v.eff p := fun p => by rw [State.eff, same, State.eff]
  have eff' : ∀ p, s'.eff p = s.eff p := fun p => by rw [hs', State.eff, State.withLink_params, State.eff]
  have slots : v.envelopes = s.envelopes := by rw [takes.envelopes, hs', State.withLink_envelopes]
  intro n period width
  refine ⟨?_, ?_, fun i => ⟨?_, ?_⟩, ?_, ?_, ?_, ?_, ?_, ?_, ?_, fun i => ?_, fun room => ?_, ?_⟩
  · rw [State.withLink_ctrl, ht, takes.ctrl, hs', State.withLink_ctrl]
  · have clock : v.clock = s.clock := by rw [takes.clock, hs', State.withLink_clock]
    have atPeriod : v.effNat Param.revPeriod = period := (congrArg Int.toNat (eff Param.revPeriod)).symm
    have atWidth : halfWidth period (v.effNat Param.revTolerance) = width :=
      congrArg (fun x : Int => period * 2 ^ x.toNat / 16) (eff Param.revTolerance).symm
    rw [State.withLink_ring, ht]
    simp only [State.windowOf, State.stallExpiry, atPeriod, atWidth, clock]
  · rw [State.withLink_tracker, ht]
    exact getElem_replicate_fin _ i
  · rw [State.withLink_tracker, ht]
    exact getElem_replicate_fin _ i
  · rw [State.withLink_tracker, ht]
    rfl
  · rw [State.withLink_tracker, ht]
  · rw [State.withLink_tracker, ht, takes.tracker, hs', State.withLink_tracker]
    rfl
  · rw [State.withLink_odo, ht, takes.odo, hs', State.withLink_odo]
    rfl
  · rw [State.withLink_route, ht, takes.route, hs', State.withLink_route]
  · rw [State.withLink_envelopes, ht, slots]
    rfl
  · rw [State.withLink_params, same, store, ParamStore.runTaken]
  · have here : t.filters = v.filters.afterTaking (v.eff Param.wheelFilter ≠ s'.eff Param.wheelFilter)
        (v.eff Param.inputConstant ≠ s'.eff Param.inputConstant) := by rw [ht]
    have wheel : (t.withLink { t.link with responses := t.link.responses ++ [doneTo r []] }).eff Param.wheelFilter =
      v.eff Param.wheelFilter := eff _
    have input : (t.withLink { t.link with responses := t.link.responses ++ [doneTo r []] }).eff Param.inputConstant =
      v.eff Param.inputConstant := eff _
    rw [State.withLink_filters, here, Filters.get_afterTaking, takes.filters, hs', State.withLink_filters, ← hs']
    simp only [wheel, input, eff'] <;> cases i <;> rfl
  · have told' := reports (by rw [hs']; exact State.room_congr (s := s) rfl room)
    rw [State.withLink_causes, State.withLink_link, ht, told', hs', State.withLink_params]
    by_cases none : ids = []
    · rw [if_pos none, show told = s from if_pos none]
      simp only [State.withParams_causes, State.withParams_link, State.withLink_causes, State.withLink_link, and_self]
    · rw [if_neg none, show told = s.reported .paramAdjusted from if_neg none, State.withRequests_reported]
      simp only [State.withParams_causes, State.withParams_link, State.withLink_causes, State.withLink_link, and_self]
  · have frame' : v = { s with
        params := v.params, causes := v.causes, link := { s.link with requests := rest, events := v.link.events } } := by
      rw [hs'] at frame
      exact frame
    have causes : t.causes = v.causes := by rw [ht]
    have events : t.link.events = v.link.events := by rw [ht]
    have rest' : t = { s with
        filters := t.filters, ring := t.ring, tracker := t.tracker, envelopes := t.envelopes, odo := t.odo
        route := t.route, ctrl := t.ctrl, params := t.params, causes := t.causes
        link := { s.link with requests := rest, events := t.link.events, skipped := 0, madeReady := 0,
                              runSkipped := 0 } } := by
      conv_lhs => rw [after, frame']
      rw [same, causes, events]
    have responses : t.link.responses = s.link.responses := by rw [rest']
    conv_lhs => rw [responses, rest']
    rfl

end Sys2Proof.Machine
end

section
/-! SUPPORT. Head link frames: the frame check of R1 both ways (§12.2, R1, R5, R182, R183). -/

namespace Sys2Proof.Machine

/-! ### Numbers and flags -/

/-- Two bytes of a number spell it again where it fits. -/
theorem leBytes_two (v : Nat) : leBytes 2 v = [BitVec.ofNat 8 v, BitVec.ofNat 8 (v / 256)] := rfl

theorem readLe_two (lo hi : Byte) : readLe [lo, hi] = lo.toNat + 256 * hi.toNat := by
  simp [readLe]

theorem readLe_two_lt (lo hi : Byte) : readLe [lo, hi] < 65536 := by simpa using readLe_lt [lo, hi]

/-- Two bytes give a word exactly when they are its bytes. -/
theorem ofNat_readLe_eq_iff (lo hi : Byte) (v : BitVec 16) :
    BitVec.ofNat 16 (readLe [lo, hi]) = v ↔ [lo, hi] = leBytes 2 v.toNat := by
  have below := readLe_two_lt lo hi
  constructor
  · rintro rfl
    rw [BitVec.toNat_ofNat, Nat.mod_eq_of_lt below]
    exact (leBytes_readLe [lo, hi]).symm
  · intro bytes
    rw [bytes, readLe_leBytes_two v.isLt, BitVec.ofNat_toNat, BitVec.setWidth_eq]

/-- The flag bits of a sample that are not ignored (R5, R183). -/
def FlagsOf (x : Sample) (flags : Byte) : Prop :=
  x.nr = flags.getLsbD 0 ∧ x.sat = flags.getLsbD 1 ∧ x.mult = flags.getLsbD 2

/-- The flag byte of a sample as it is written (§12.2). -/
def sampleFlags (x : Sample) : Byte := BitVec.ofNat 8 (x.nr.toNat + 2 * x.sat.toNat + 4 * x.mult.toNat)

theorem flagBits : ∀ nr sat mult : Bool,
    let flags : Byte := BitVec.ofNat 8 (nr.toNat + 2 * sat.toNat + 4 * mult.toNat)
    (nr = flags.getLsbD 0 ∧ sat = flags.getLsbD 1 ∧ mult = flags.getLsbD 2) ∧
    flags = (if nr then 1 else 0) + (if sat then 2 else 0) + (if mult then 4 else 0) := by
  decide

theorem flagsOf_sampleFlags (x : Sample) : FlagsOf x (sampleFlags x) := (flagBits x.nr x.sat x.mult).1

theorem sampleFlags_eq (x : Sample) :
    sampleFlags x = (if x.nr then 1 else 0) + (if x.sat then 2 else 0) + (if x.mult then 4 else 0) :=
  (flagBits x.nr x.sat x.mult).2

/-! ### Samples -/

/-- The bytes of samples with their flag bytes, ignored bits and all. -/
def sampleBytes (xs : List (Sample × Byte)) : List Byte :=
  xs.flatMap fun y => leBytes 2 y.1.range.toNat ++ [y.1.intensity, y.2]

theorem sampleBytes_cons (x : Sample) (fl : Byte) (xs : List (Sample × Byte)) :
    sampleBytes ((x, fl) :: xs) = leBytes 2 x.range.toNat ++ [x.intensity, fl] ++ sampleBytes xs := rfl

theorem sampleBytes_length (ys : List (Sample × Byte)) : (sampleBytes ys).length = 4 * ys.length := by
  induction ys with
  | nil => rfl
  | cons y ys ih =>
    rw [sampleBytes_cons, List.length_append, ih, List.length_cons]
    simp only [List.length_append, leBytes_length, List.length_cons, List.length_nil]
    omega

/-- Bytes read as samples are the bytes of those samples, some bits of the flags ignored (R5, R183). -/
theorem readSamples_eq_iff {n : Nat} {bytes : List Byte} (length : bytes.length = 4 * n) (xs : List Sample) :
    readSamples bytes = xs ↔ xs.length = n ∧ ∃ flags : List Byte, flags.length = xs.length ∧
      (∀ y ∈ xs.zip flags, FlagsOf y.1 y.2) ∧ bytes = sampleBytes (xs.zip flags) := by
  induction n generalizing bytes xs with
  | zero =>
    obtain rfl := List.length_eq_zero_iff.1 length
    constructor
    · rintro rfl
      exact ⟨rfl, [], rfl, nofun, rfl⟩
    · rintro ⟨none, -⟩
      exact (List.length_eq_zero_iff.1 none).symm
  | succ n ih =>
    match bytes, length with
    | lo :: hi :: i :: fl :: rest, length =>
      have fewer : rest.length = 4 * n := by simp only [List.length_cons] at length; omega
      rw [readSamples]
      constructor
      · rintro rfl
        obtain ⟨count, flags, same, flagged, bytes⟩ := (ih fewer _).1 rfl
        refine ⟨by simp [count], fl :: flags, by simp [same], ?_, ?_⟩
        · intro y hy
          rw [List.zip_cons_cons, List.mem_cons] at hy
          rcases hy with rfl | hy
          · exact ⟨rfl, rfl, rfl⟩
          · exact flagged y hy
        · have word := (ofNat_readLe_eq_iff lo hi _).1 rfl
          rw [List.zip_cons_cons, sampleBytes_cons, ← word, ← bytes]
          rfl
      · rintro ⟨count, flags, same, flagged, bytes⟩
        match xs, flags, count, same with
        | x :: xs, f :: flags, count, same =>
          rw [List.zip_cons_cons, sampleBytes_cons, leBytes_two] at bytes
          simp only [List.cons_append, List.nil_append, List.cons.injEq] at bytes
          obtain ⟨rfl, rfl, rfl, rfl, bytes⟩ := bytes
          obtain ⟨nr, sat, mult⟩ := flagged (x, fl) (by simp)
          have tail : readSamples rest = xs := (ih fewer xs).2
            ⟨by simpa using count, flags, by simpa using same,
              fun y hy => flagged y (by simp [hy]), bytes⟩
          rw [tail, (ofNat_readLe_eq_iff _ _ x.range).2 (leBytes_two _).symm]
          obtain ⟨_, _, _, _, _⟩ := x
          simp_all

/-! ### The frame check -/

/-- A frame's body with its CRC (R1, R182). -/
def checked (body : List Byte) : List Byte := body ++ leBytes 2 (crc16 body).toNat

theorem parseHeadFrame_eq_some_iff {frame : List Byte} {seq : Byte} {f : HeadFrame} :
    parseHeadFrame frame = some (seq, f) ↔ ∃ kind len payload, payload.length = headPayloadSize kind len ∧
      readHeadPayload kind len payload = some f ∧ frame = checked (kind :: seq :: len :: payload) := by
  constructor
  · intro h
    unfold parseHeadFrame at h
    split at h
    · next kind seq' len rest =>
      dsimp only at h
      rw [Option.ite_none_right_eq_some, Option.map_eq_some_iff] at h
      obtain ⟨⟨whole, crc⟩, g, reads, same⟩ := h
      obtain ⟨rfl, rfl⟩ := Prod.mk.inj same
      refine ⟨kind, len, rest.take (headPayloadSize kind len), ?_, reads, ?_⟩
      · rw [List.length_take]
        omega
      · conv_lhs => rw [← List.take_append_drop (headPayloadSize kind len) rest, crc]
        rfl
    · cases h
  · rintro ⟨kind, len, payload, size, reads, rfl⟩
    have crc : (leBytes 2 (crc16 (kind :: seq :: len :: payload)).toNat).length = 2 := leBytes_length 2 _
    unfold parseHeadFrame checked
    simp only [List.cons_append]
    rw [← size, List.take_left, List.drop_left, if_pos ⟨by rw [List.length_append, crc], rfl⟩, reads]
    rfl

/-! ### The payloads by kind -/

theorem readHeadPayload_sampleRun_iff {kind len : Byte} {payload : List Byte} {a0 : BitVec 14} {step : Byte}
    {xs : List Sample} : readHeadPayload kind len payload = some (.sampleRun a0 step xs) ↔
      kind = 1 ∧ 1 ≤ len.toNat ∧ len.toNat ≤ 64 ∧ 1 ≤ step.toNat ∧ step.toNat ≤ 16 ∧ ∃ lo hi bytes,
        payload = lo :: hi :: step :: len :: bytes ∧ BitVec.ofNat 14 (readLe [lo, hi]) = a0 ∧ readSamples bytes = xs := by
  unfold readHeadPayload
  constructor
  · intro h
    split_ifs at h with one two len2 three len3
    · split at h
      · next lo hi step' count bytes =>
        rw [Option.ite_none_right_eq_some, Option.some.injEq] at h
        obtain ⟨⟨few, many, same, low, high⟩, content⟩ := h
        injection content with at0 steps samples
        subst steps same
        exact ⟨one, few, many, low, high, lo, hi, bytes, rfl, at0, samples⟩
      · cases h
    · cases h
    · cases h
  · rintro ⟨rfl, few, many, low, high, lo, hi, bytes, rfl, rfl, rfl⟩
    rw [if_pos rfl]
    exact if_pos ⟨few, many, rfl, low, high⟩

theorem readHeadPayload_ringStart_iff {kind len : Byte} {payload : List Byte} {counter : BitVec 16} :
    readHeadPayload kind len payload = some (.ringStart counter) ↔
      kind = 2 ∧ len = 2 ∧ BitVec.ofNat 16 (readLe payload) = counter := by
  unfold readHeadPayload
  constructor
  · intro h
    split_ifs at h with one two len2 three len3
    · split at h
      · rw [Option.ite_none_right_eq_some] at h
        cases h.2
      · cases h
    · injection h with h
      injection h with same
      exact ⟨two, len2, same⟩
    · cases h
  · rintro ⟨rfl, rfl, rfl⟩
    rfl

theorem readHeadPayload_headStatus_iff {kind len : Byte} {payload bytes : List Byte} :
    readHeadPayload kind len payload = some (.headStatus bytes) ↔
      kind = 3 ∧ 1 ≤ len.toNat ∧ len.toNat ≤ 16 ∧ payload = bytes := by
  unfold readHeadPayload
  constructor
  · intro h
    split_ifs at h with one two len2 three len3
    · split at h
      · rw [Option.ite_none_right_eq_some] at h
        cases h.2
      · cases h
    · cases h
    · injection h with h
      injection h with same
      exact ⟨three, len3.1, len3.2, same⟩
  · rintro ⟨rfl, few, many, rfl⟩
    change (if 1 ≤ len.toNat ∧ len.toNat ≤ 16 then some (HeadFrame.headStatus payload) else none) = _
    rw [if_pos ⟨few, many⟩]

theorem toNat_ofNat_length {n : Nat} (h : n ≤ 64) : (BitVec.ofNat 8 n).toNat = n := by
  rw [BitVec.toNat_ofNat]
  omega

/-- The check of a SAMPLE_RUN (R1, R5, R183). -/
theorem parseHeadFrame_sampleRun_iff (frame : List Byte) (seq : Byte) (a0 : BitVec 14) (step : Byte)
    (xs : List Sample) : parseHeadFrame frame = some (seq, .sampleRun a0 step xs) ↔
      1 ≤ xs.length ∧ xs.length ≤ 64 ∧ 1 ≤ step.toNat ∧ step.toNat ≤ 16 ∧
        ∃ (lo hi : Byte) (flags : List Byte), (lo.toNat + 256 * hi.toNat) % 16384 = a0.toNat ∧
          flags.length = xs.length ∧ (∀ y ∈ xs.zip flags, FlagsOf y.1 y.2) ∧
          frame = checked ([1, seq, BitVec.ofNat 8 xs.length, lo, hi, step, BitVec.ofNat 8 xs.length] ++
            sampleBytes (xs.zip flags)) := by
  rw [parseHeadFrame_eq_some_iff]
  constructor
  · rintro ⟨kind, len, payload, size, reads, rfl⟩
    obtain ⟨rfl, few, many, low, high, lo, hi, bytes, rfl, at0, samples⟩ := readHeadPayload_sampleRun_iff.1 reads
    have count : bytes.length = 4 * len.toNat := by
      simp only [headPayloadSize, if_true, List.length_cons] at size
      omega
    obtain ⟨length, flags, same, flagged, rfl⟩ := (readSamples_eq_iff count xs).1 samples
    have field : BitVec.ofNat 8 xs.length = len := by rw [length, BitVec.ofNat_toNat, BitVec.setWidth_eq]
    refine ⟨length ▸ few, length ▸ many, low, high, lo, hi, flags, ?_, same, flagged, ?_⟩
    · rw [← at0, BitVec.toNat_ofNat, readLe_two]
    · rw [field]
      rfl
  · rintro ⟨few, many, low, high, lo, hi, flags, at0, same, flagged, rfl⟩
    have field := toNat_ofNat_length many
    have count : (sampleBytes (xs.zip flags)).length = 4 * xs.length := by
      rw [sampleBytes_length, List.length_zip, same, Nat.min_self]
    refine ⟨1, BitVec.ofNat 8 xs.length, lo :: hi :: step :: BitVec.ofNat 8 xs.length :: sampleBytes (xs.zip flags), ?_,
      readHeadPayload_sampleRun_iff.2 ⟨rfl, by rw [field]; exact few, by rw [field]; exact many, low, high, lo, hi, _, rfl,
        ?_, (readSamples_eq_iff count xs).2 ⟨rfl, flags, same, flagged, rfl⟩⟩, rfl⟩
    · simp only [headPayloadSize, if_true, List.length_cons, field, count]
      omega
    · apply BitVec.eq_of_toNat_eq
      rw [BitVec.toNat_ofNat, readLe_two, at0]

theorem parseHeadFrame_ringStart_iff (frame : List Byte) (seq : Byte) (counter : BitVec 16) :
    parseHeadFrame frame = some (seq, .ringStart counter) ↔
      frame = checked ([2, seq, 2] ++ leBytes 2 counter.toNat) := by
  rw [parseHeadFrame_eq_some_iff]
  constructor
  · rintro ⟨kind, len, payload, size, reads, rfl⟩
    obtain ⟨rfl, rfl, same⟩ := readHeadPayload_ringStart_iff.1 reads
    obtain ⟨lo, hi, rfl⟩ := List.length_eq_two.1 size
    rw [(ofNat_readLe_eq_iff lo hi counter).1 same]
    rfl
  · rintro rfl
    refine ⟨2, 2, leBytes 2 counter.toNat, leBytes_length 2 _, readHeadPayload_ringStart_iff.2 ⟨rfl, rfl, ?_⟩, rfl⟩
    exact (ofNat_readLe_eq_iff _ _ counter).2 (leBytes_two _).symm

theorem parseHeadFrame_headStatus_iff (frame : List Byte) (seq : Byte) (bytes : List Byte) :
    parseHeadFrame frame = some (seq, .headStatus bytes) ↔ 1 ≤ bytes.length ∧ bytes.length ≤ 16 ∧
      frame = checked ([3, seq, BitVec.ofNat 8 bytes.length] ++ bytes) := by
  rw [parseHeadFrame_eq_some_iff]
  constructor
  · rintro ⟨kind, len, payload, size, reads, rfl⟩
    obtain ⟨rfl, few, many, rfl⟩ := readHeadPayload_headStatus_iff.1 reads
    have size : payload.length = len.toNat := size
    have field : BitVec.ofNat 8 payload.length = len := by rw [size, BitVec.ofNat_toNat, BitVec.setWidth_eq]
    rw [field]
    exact ⟨size ▸ few, size ▸ many, rfl⟩
  · rintro ⟨few, many, rfl⟩
    have field : (BitVec.ofNat 8 bytes.length).toNat = bytes.length := toNat_ofNat_length (by omega)
    exact ⟨3, BitVec.ofNat 8 bytes.length, bytes, field.symm,
      readHeadPayload_headStatus_iff.2 ⟨rfl, by rw [field]; exact few, by rw [field]; exact many, rfl⟩, rfl⟩

/-! ### Frames as they are written -/

theorem zip_map_sampleFlags (xs : List Sample) :
    (xs.zip (xs.map sampleFlags)) = xs.map fun x => (x, sampleFlags x) := by
  induction xs with
  | nil => rfl
  | cons x xs ih => rw [List.map_cons, List.zip_cons_cons, ih, List.map_cons]

theorem sampleBytes_written (xs : List Sample) :
    sampleBytes (xs.zip (xs.map sampleFlags)) = xs.flatMap Sample.bytes := by
  rw [zip_map_sampleFlags, sampleBytes, List.flatMap_map]
  rfl

theorem headFrameWhole_iff (frame : List Byte) : headFrameWhole frame = true ↔
    ∃ kind seq len rest, frame = kind :: seq :: len :: rest ∧
      (if kind = 1 then 4 + 4 * len.toNat else len.toNat) + 2 ≤ rest.length := by
  constructor
  · intro h
    unfold headFrameWhole at h
    split at h
    · next kind seq len rest => exact ⟨kind, seq, len, rest, rfl, of_decide_eq_true h⟩
    · cases h
  · rintro ⟨kind, seq, len, rest, rfl, whole⟩
    exact decide_eq_true whole

/-- Settles O1: the frame check by kind, of which the frames as they are written are a case. -/
theorem headFrameRoundTrip : Obligations.HeadFrameRoundTrip := by
  unfold Obligations.HeadFrameRoundTrip
  intro checks
  refine ⟨fun seq f legal => ?_, fun seq f => ?_, headFrameWhole_iff, fun frame seq f => ?_⟩
  · cases f with
    | sampleRun a0 step xs =>
      simp only [HeadFrame.legal, Bool.and_eq_true, decide_eq_true_eq] at legal
      obtain ⟨⟨⟨few, many⟩, low⟩, high⟩ := legal
      refine (parseHeadFrame_sampleRun_iff _ seq a0 step xs).2 ⟨few, many, low, high, BitVec.ofNat 8 a0.toNat,
        BitVec.ofNat 8 (a0.toNat / 256), xs.map sampleFlags, ?_, List.length_map _, fun y hy => ?_, ?_⟩
      · have below := a0.isLt
        simp only [BitVec.toNat_ofNat]
        omega
      · rw [zip_map_sampleFlags] at hy
        obtain ⟨x, -, rfl⟩ := List.mem_map.1 hy
        exact flagsOf_sampleFlags x
      · rw [sampleBytes_written]
        rfl
    | ringStart counter => exact (parseHeadFrame_ringStart_iff _ seq counter).2 rfl
    | headStatus bytes =>
      simp only [HeadFrame.legal, Bool.and_eq_true, decide_eq_true_eq] at legal
      exact (parseHeadFrame_headStatus_iff _ seq bytes).2 ⟨legal.1, legal.2, rfl⟩
  · cases f with
    | sampleRun a0 step xs =>
      have written : xs.flatMap Sample.bytes = xs.flatMap fun x => leBytes 2 x.range.toNat ++ [x.intensity,
          (if x.nr then 1 else 0) + (if x.sat then 2 else 0) + (if x.mult then 4 else 0)] := by
        refine List.flatMap_congr fun x _ => ?_
        rw [← sampleFlags_eq]
        rfl
      dsimp only
      rw [← written]
      rfl
    | ringStart counter => rfl
    | headStatus bytes => rfl
  · cases f with
    | sampleRun a0 step xs => exact parseHeadFrame_sampleRun_iff frame seq a0 step xs
    | ringStart counter => exact parseHeadFrame_ringStart_iff frame seq counter
    | headStatus bytes => exact parseHeadFrame_headStatus_iff frame seq bytes

end Sys2Proof.Machine
end

section
/-! SUPPORT. Head link symbols and frames counted: symbol lock, good frames in SEARCHING, bad frames (section 1.1, R1 to
R3). -/

namespace Sys2Proof.Machine

/-! ### Symbols that move the lock alone -/

/-- An idle symbol, and outside a frame every symbol but the delimiter, moves the lock alone (R1). -/
theorem Work.receiveHead_sync {w : Work} {x : Symbol}
    (h : x = .idle ∨ x ≠ .delimiter ∧ w.st.head.partFrame = none) :
    w.receiveHead x = w.modify fun s => s.withHead { s.head with sync := w.st.head.sync.next x } := by
  have nothing : ∀ v : Work, v.st.head.partFrame = w.st.head.partFrame → v.headSymbol x = v := by
    intro v same
    unfold Work.headSymbol
    rw [same]
    rcases h with rfl | ⟨notDelimiter, outside⟩
    · cases w.st.head.partFrame <;> rfl
    · rw [outside]
      cases x with
      | delimiter => exact absurd rfl notDelimiter
      | _ => rfl
  unfold Work.receiveHead
  dsimp only
  rw [nothing (w.modify fun s => s.withHead { s.head with sync := w.st.head.sync.next x }) rfl, ite_self]

/-- So do many (R1). -/
theorem Work.receiveHead_all_sync (xs : List Symbol) {w : Work}
    (h : (∀ x ∈ xs, x = .idle) ∨ (∀ x ∈ xs, x ≠ .delimiter) ∧ w.st.head.partFrame = none) :
    xs.foldl Work.receiveHead w =
      w.modify fun s => s.withHead { s.head with sync := xs.foldl SymbolLock.next w.st.head.sync } := by
  induction xs generalizing w with
  | nil => rfl
  | cons x xs ih =>
    have first : x = .idle ∨ x ≠ .delimiter ∧ w.st.head.partFrame = none :=
      h.imp (fun idle => idle x (by simp)) fun ⟨other, outside⟩ => ⟨other x (by simp), outside⟩
    rw [List.foldl_cons, Work.receiveHead_sync first, ih]
    · rfl
    · exact h.imp (fun idle y hy => idle y (by simp [hy])) fun ⟨other, outside⟩ =>
        ⟨fun y hy => other y (by simp [hy]), outside⟩

/-- Four invalid symbols in a row end symbol lock (section 1.1). -/
theorem SymbolLock.next_invalids {l : SymbolLock} (held : l.held = true) :
    [Symbol.invalid, .invalid, .invalid, .invalid].foldl SymbolLock.next l = .none := by
  obtain ⟨_, idles, invalids⟩ := l
  subst held
  match invalids with
  | 0 => rfl
  | 1 => rfl
  | 2 => rfl
  | n + 3 => rfl

/-- Three K28.5 in a row give symbol lock (section 1.1). -/
theorem SymbolLock.next_idles {l : SymbolLock} (off : l.held = false) :
    [Symbol.idle, .idle, .idle].foldl SymbolLock.next l = .gained := by
  obtain ⟨_, idles, invalids⟩ := l
  subst off
  match idles with
  | 0 => rfl
  | 1 => rfl
  | n + 2 => rfl

/-! ### A bad frame heard -/

theorem Work.receiveHead_of_held {w : Work} (held : w.st.head.sync.held = true) (x : Symbol) :
    w.receiveHead x =
      (w.modify fun s => s.withHead { s.head with sync := w.st.head.sync.next x }).headSymbol x := if_pos held

section
variable {w : Work} {part : List Byte} (inside : w.st.head.partFrame = some part)
include inside

theorem Work.headSymbol_delimiter : w.headSymbol .delimiter = (w.setHeadPart (some [])).badFrame.settle := by
  unfold Work.headSymbol
  rw [inside]

theorem Work.headSymbol_invalid : w.headSymbol .invalid = (w.setHeadPart none).badFrame.settle := by
  unfold Work.headSymbol
  rw [inside]

end

/-- A delimiter inside a frame cuts it and begins one (R1). -/
theorem Work.receiveHead_delimiter_inside {w : Work} {part : List Byte} (held : w.st.head.sync.held = true)
    (inside : w.st.head.partFrame = some part) : w.receiveHead .delimiter =
      (w.modify fun s => s.withHead
        { s.head with sync := w.st.head.sync.heard, partFrame := some [] }).badFrame.settle := by
  rw [Work.receiveHead_of_held held, SymbolLock.next_of_held held (x := .delimiter) (by simp)]
  exact Work.headSymbol_delimiter (part := part) (by exact inside)

/-- An invalid symbol inside a frame ends it bad (R1). -/
theorem Work.receiveHead_invalid_inside {w : Work} {part : List Byte} (held : w.st.head.sync.held = true)
    (inside : w.st.head.partFrame = some part) : w.receiveHead .invalid =
      (w.modify fun s => s.withHead
        { s.head with sync := w.st.head.sync.next .invalid, partFrame := none }).badFrame.settle := by
  rw [Work.receiveHead_of_held held]
  exact Work.headSymbol_invalid (part := part) (by exact inside)

/-- What bad frames count by is not the frame's. -/
theorem State.HearsBad.kept {s : State} {symbols : List Symbol} {h : HeadLink} (hears : s.HearsBad symbols h) :
    h.lock = s.head.lock ∧ h.badRun = s.head.badRun := by
  obtain ⟨-, -, frame, ⟨-, -, -, -, rfl⟩ | ⟨-, -, rfl⟩ | ⟨-, -, rfl⟩⟩ := hears <;> exact ⟨rfl, rfl⟩

/-- A bad frame is counted once its symbols have left the receiver as they do (R1). -/
theorem State.HearsBad.exec_eq {s : State} {symbols : List Symbol} {h : HeadLink} (hears : s.HearsBad symbols h) :
    exec (.headFrameBad symbols) s = .next (Work.mk (s.withHead h) none).badFrame.settle.st := by
  have heard : symbols.foldl Work.receiveHead (Work.of s) = (Work.mk (s.withHead h) none).badFrame.settle := by
    obtain ⟨held, outside, frame, ⟨rfl, whole, last, bad, rfl⟩ | ⟨part, rfl, rfl⟩ | ⟨part, rfl, rfl⟩⟩ := hears
    · rw [Work.receiveHead_framed (Work.of s) frame held outside whole last, Work.judgeHead, bad, ← outside]
      rfl
    · rw [List.foldl_append, Work.receiveHead_unfinished (Work.of s) frame held outside part, List.foldl_cons,
        List.foldl_nil, Work.receiveHead_delimiter_inside (part := frame) held rfl]
      rfl
    · have one : s.head.sync.heard.next .invalid = { s.head.sync with invalids := 1 } := by
        have held : s.head.sync.held = true := held
        simp [SymbolLock.next, SymbolLock.heard, held, Config.symbolLossRun]
      rw [List.foldl_append, Work.receiveHead_unfinished (Work.of s) frame held outside part, List.foldl_cons,
        List.foldl_nil, Work.receiveHead_invalid_inside (part := frame) held rfl]
      simp only [Work.modify, Work.of, State.withHead_head, one, ← outside]
      rfl
  change (symbols.foldl Work.receiveHead (Work.of s)).done = _
  rw [heard, Work.done_eq, Work.settle_settle]

/-! ### A bad frame counted -/

theorem State.withHead_reported (s : State) (h : HeadLink) (c : Cause) :
    (s.withHead h).reported c = (s.reported c).withHead h := by
  have enabled : (s.withHead h).reports c.cls = s.reports c.cls := rfl
  simp only [State.reported, enabled, State.withHead_causes]
  split_ifs <;> rfl

section
variable {s : State} {h : HeadLink}

theorem Work.badFrame_of_searching (searching : h.lock = .searching) :
    (Work.mk (s.withHead h) none).badFrame.settle = Work.mk (s.withHead { h with goodRun := 0 }) none := by
  unfold Work.badFrame
  simp only [State.withHead_head, searching]
  rw [← searching]
  rfl

/-- In LOCKED a bad frame raises HEAD_FRAME_LOSS and is counted (R3). -/
theorem Work.badFrame_of_locked (locked : h.lock = .locked) (room : s.room 1) :
    (Work.mk (s.withHead h) none).badFrame = (Work.mk ((s.reported .headFrameLoss).withHead h) none).countBad := by
  unfold Work.badFrame
  simp only [State.withHead_head, locked]
  rw [Work.raise_mk (s := s.withHead h) (by decide) (State.room_congr (s := s) rfl room), Work.settle_mk, State.withHead_reported]

theorem Work.badFrame_of_few (locked : h.lock = .locked) (few : h.badRun + 1 < 8) (room : s.room 1) :
    (Work.mk (s.withHead h) none).badFrame.settle =
      Work.mk ((s.reported .headFrameLoss).withHead { h with badRun := h.badRun + 1 }) none := by
  rw [Work.badFrame_of_locked locked room, Work.countBad]
  exact (congrArg Work.settle (if_pos few)).trans (Work.settle_mk _)

/-- The eighth bad frame in a row ends the lock (R3). -/
theorem Work.badFrame_of_eighth (locked : h.lock = .locked) (many : h.badRun = 7) (room : s.room 1) :
    (Work.mk (s.withHead h) none).badFrame =
      (Work.mk ((s.reported .headFrameLoss).withHead h.unlocked) none).raise
        (if s.ctrl.run = .running then .headLost else .headUnlocked) := by
  have last : ¬ h.badRun + 1 < Config.unlockRun := by rw [many]; decide
  have run : (s.reported .headFrameLoss).ctrl = s.ctrl := State.reported_ctrl ..
  rw [Work.badFrame_of_locked locked room, Work.countBad]
  refine (if_neg last).trans ?_
  rw [State.withHead_ctrl, run]
  rfl

theorem Work.badFrame_of_eighth_out (locked : h.lock = .locked) (many : h.badRun = 7) (room : s.room 2)
    (run : s.ctrl.run ≠ .running) : (Work.mk (s.withHead h) none).badFrame.settle =
      Work.mk (((s.reported .headFrameLoss).withHead h.unlocked).reported .headUnlocked) none := by
  rw [Work.badFrame_of_eighth locked many (State.room_mono room (by omega)), if_neg run,
    Work.raise_mk (s := (s.reported .headFrameLoss).withHead h.unlocked) (by decide)
      (State.room_congr (s := s.reported .headFrameLoss) rfl (State.reported_room _ _ room)),
    Work.settle_mk]

/-- The eighth in RUNNING is fatal (R3, R140). -/
theorem Work.badFrame_of_eighth_running (locked : h.lock = .locked) (many : h.badRun = 7) (room : s.room 2)
    (run : s.ctrl.run = .running) : (Work.mk (s.withHead h) none).badFrame =
      Work.mk (((s.reported .headFrameLoss).withHead h.unlocked).reported .headLost) (some .headLost) := by
  rw [Work.badFrame_of_eighth locked many (State.room_mono room (by omega)), if_pos run]
  exact Work.raise_mk_fatal rfl (by rw [State.withHead_ctrl, State.reported_ctrl, run])
    (State.room_congr (s := s.reported .headFrameLoss) rfl (State.reported_room _ _ room))

/-- It ends the run in FAULT, whatever room fault entry finds (R140, R141). -/
theorem Work.badFrame_of_eighth_faults (locked : h.lock = .locked) (many : h.badRun = 7) (room : s.room 2)
    (run : s.ctrl.run = .running) : ∃ t, (Work.mk (s.withHead h) none).badFrame.settle = Work.mk t none ∧
      t.head = h.unlocked ∧ t.ctrl.run = .fault ∧
      t.ctrl.faultRecord = some { cause := .headLost, ringSeq := s.ring.ringSeq, chainage := s.chainage } ∧
      t = { s with head := t.head, ring := t.ring, params := t.params, envelopes := t.envelopes, tracker := t.tracker,
                   odo := t.odo, ctrl := t.ctrl, link := t.link, causes := t.causes } := by
  have fatal := Work.badFrame_of_eighth_running locked many room run
  obtain ⟨v, hv⟩ : ∃ v, v = ((s.reported .headFrameLoss).withHead h.unlocked).reported .headLost := ⟨_, rfl⟩
  have vframe : v = { s with head := h.unlocked, causes := v.causes, link := v.link } := by
    rw [hv, State.reported_frame, State.reported_frame]
    rfl
  rw [← hv] at fatal
  have entered := Work.settle_of_fatal (w := Work.mk v (some .headLost)) rfl (.inl (by rw [vframe]; exact run))
  have record := entered.ctrl
  have kept := (Work.mk v (some .headLost)).settle_frame
  have settled := (congrArg Work.settle fatal).trans (Work.eq_of_st (Work.settle_fatal _))
  generalize (Work.mk v (some .headLost)).settle.st = t at record kept settled
  dsimp only at record kept
  rw [vframe] at kept
  refine ⟨t, settled, ?_, ?_, ?_, ?_⟩
  · rw [kept]
  · rw [record]
  · rw [record, vframe]
    rfl
  · conv_lhs => rw [kept]
    rw [show t.head = h.unlocked by rw [kept]]

/-- With room for them fault entry's records are queued (R140). -/
theorem Work.badFrame_of_eighth_room (locked : h.lock = .locked) (many : h.badRun = 7)
    (room : s.room (s.tracker.table.length + 6)) (run : s.ctrl.run = .running) :
    (Work.mk (s.withHead h) none).badFrame.settle =
      Work.mk ((((s.reported .headFrameLoss).withHead h.unlocked).reported .headLost).faulted .headLost) none := by
  rw [Work.badFrame_of_eighth_running locked many (State.room_mono room (by omega)) run]
  refine Work.settle_mk_fatal (by rw [State.reported_ctrl, State.withHead_ctrl, State.reported_ctrl, run]) ?_
  rw [State.reported_tracker, State.withHead_tracker, State.reported_tracker]
  exact State.reported_room _ _
    (State.room_congr (s := s.reported .headFrameLoss) rfl (State.reported_room _ _ room))

end

/-! ### The obligations -/

/-- Settles O16: in SEARCHING a frame moves the counts of the receiver alone. -/
theorem headFramesInSearching : Obligations.HeadFramesInSearching := by
  intro s searching
  refine ⟨fun frame seq f held outside content => ?_, fun symbols h hears => ?_⟩
  · refine (execHeadFrameGood_framed s frame seq f held outside content).trans ?_
    unfold Work.goodFrame
    simp only [Work.of_eq, State.withHead_head, searching]
    rw [Work.modify_mk, Work.done_mk, HeadLink.countGood]
    rfl
  · rw [hears.exec_eq, Work.badFrame_of_searching (hears.kept.1.trans searching)]

/-- Settles O17: HEAD_FRAME_LOSS and the count; the eighth in a row ends the lock and a run with it. -/
theorem headFramesBadInLocked : Obligations.HeadFramesBadInLocked := by
  intro s symbols h hears lock room
  obtain ⟨sameLock, sameCount⟩ := hears.kept
  have locked := sameLock.trans lock
  rw [hears.exec_eq, ← sameCount]
  refine ⟨fun few => ?_, fun many out => ?_, fun many run => ?_, fun many run more => ?_⟩
  · rw [Work.badFrame_of_few locked few (State.room_mono room (by omega))]
  · rw [Work.badFrame_of_eighth_out locked many room out]
    rfl
  · obtain ⟨t, settled, after⟩ := Work.badFrame_of_eighth_faults locked many room run
    exact ⟨t, by rw [settled], after⟩
  · rw [Work.badFrame_of_eighth_room locked many more run]
    rfl

/-! ### Symbol lock -/

/-- The commands of the head link receive their symbols, and the state is whole after them. -/
theorem exec_headFrameGood (xs : List Symbol) (s : State) :
    exec (.headFrameGood xs) s = .next (xs.foldl Work.receiveHead (Work.of s)).st := by
  have whole := Work.receiveHead_all_fatal xs (Work.of s) rfl
  change (xs.foldl Work.receiveHead (Work.of s)).done = _
  rw [Work.done_eq, Work.eq_of_st whole]
  rfl

theorem exec_headFrameGood_append {xs ys : List Symbol} {s u : State} (h : exec (.headFrameGood xs) s = .next u) :
    exec (.headFrameGood (xs ++ ys)) s = exec (.headFrameGood ys) u := by
  have whole := Work.receiveHead_all_fatal xs (Work.of s) rfl
  rw [exec_headFrameGood, Host.Outcome.next.injEq] at h
  rw [exec_headFrameGood, exec_headFrameGood, List.foldl_append, Work.eq_of_st whole, h]

theorem exec_headFrameGood_sync (xs : List Symbol) {s : State}
    (h : (∀ x ∈ xs, x = .idle) ∨ (∀ x ∈ xs, x ≠ .delimiter) ∧ s.head.partFrame = none) :
    exec (.headFrameGood xs) s =
      .next (s.withHead { s.head with sync := xs.foldl SymbolLock.next s.head.sync }) := by
  rw [exec_headFrameGood, Work.receiveHead_all_sync xs h]
  rfl

/-- Without lock a symbol moves the lock alone (section 1.1). -/
theorem exec_headFrameGood_of_off {s : State} (off : s.head.sync.held = false) (x : Symbol) :
    exec (.headFrameGood [x]) s = .next (s.withHead { s.head with sync := s.head.sync.next x }) := by
  rw [exec_headFrameGood, List.foldl_cons, List.foldl_nil, Work.receiveHead_of_not_held _ _ off]
  rfl

/-- The four invalid symbols that end symbol lock. -/
def fourInvalid : List Symbol := [.invalid, .invalid, .invalid, .invalid]

/-- The first of four invalid symbols ends a frame under way as bad, and the others move the lock alone (R1, section
1.1). -/
theorem headSymbolLockLost_of_bad {s t : State} {part : List Byte} (held : s.head.sync.held = true)
    (inside : s.head.partFrame = some part)
    (bad : (Work.mk (s.withHead { s.head with sync := s.head.sync.next .invalid, partFrame := none })
      none).badFrame.settle = Work.mk t none)
    (same : t.head.sync = s.head.sync.next .invalid) (outside : t.head.partFrame = none) :
    exec (.headSymbolLockLost fourInvalid) s = .next (t.withHead { t.head with sync := .none }) := by
  have lock : s.head.symbolLock = true := held
  refine (if_pos lock).trans ?_
  refine (exec_headFrameGood fourInvalid s).trans ?_
  rw [fourInvalid, List.foldl_cons, Work.receiveHead_invalid_inside (w := Work.of s) held inside]
  change Host.Outcome.next (List.foldl Work.receiveHead (Work.mk (s.withHead _) none).badFrame.settle _).st = _
  rw [show (Work.mk (s.withHead { (Work.of s).st.head with
      sync := (Work.of s).st.head.sync.next .invalid, partFrame := none }) none).badFrame.settle = Work.mk t none from bad,
    Work.receiveHead_all_sync [.invalid, .invalid, .invalid] (.inr ⟨by simp, outside⟩)]
  have off := SymbolLock.next_invalids held
  rw [List.foldl_cons] at off
  rw [Work.modify_mk, same, off]

/-- The four invalid symbols inside a frame, by what becomes of the bad frame (R1 to R3). -/
theorem headSymbolLockLost_inside {s : State} {part : List Byte} (held : s.head.symbolLock = true)
    (inside : s.head.partFrame = some part) :
    let off : HeadLink := { s.head with sync := .none, partFrame := none }
    (s.head.lock = .searching →
      exec (.headSymbolLockLost fourInvalid) s = .next (s.withHead { off with goodRun := 0 })) ∧
    (s.head.lock = .locked → s.head.badRun + 1 < 8 → s.room 1 → exec (.headSymbolLockLost fourInvalid) s =
      .next ((s.reported .headFrameLoss).withHead { off with badRun := s.head.badRun + 1 })) ∧
    (s.head.lock = .locked → s.head.badRun = 7 → s.room 2 → s.ctrl.run ≠ .running →
      exec (.headSymbolLockLost fourInvalid) s =
        .next (((s.reported .headFrameLoss).reported .headUnlocked).withHead off.unlocked)) ∧
    (s.head.lock = .locked → s.head.badRun = 7 → s.room 2 → s.ctrl.run = .running →
      ∃ t, exec (.headSymbolLockLost fourInvalid) s = .next t ∧ t.head = off.unlocked ∧ t.ctrl.run = .fault ∧
        t.ctrl.faultRecord = some { cause := .headLost, ringSeq := s.ring.ringSeq, chainage := s.chainage } ∧
        t = { s with head := t.head, ring := t.ring, params := t.params, envelopes := t.envelopes
                     tracker := t.tracker, odo := t.odo, ctrl := t.ctrl, link := t.link, causes := t.causes }) := by
  refine ⟨fun searching => ?_, fun locked few room => ?_, fun locked many room out => ?_,
    fun locked many room run => ?_⟩
  · exact headSymbolLockLost_of_bad held inside (Work.badFrame_of_searching (by exact searching)) rfl rfl
  · exact headSymbolLockLost_of_bad held inside (Work.badFrame_of_few (by exact locked) (by exact few) room) rfl rfl
  · have bad := Work.badFrame_of_eighth_out
      (h := { s.head with sync := s.head.sync.next .invalid, partFrame := none }) locked many room out
    rw [State.withHead_reported] at bad
    exact headSymbolLockLost_of_bad held inside bad rfl rfl
  · obtain ⟨t, bad, head, fault, record, frame⟩ := Work.badFrame_of_eighth_faults
      (h := { s.head with sync := s.head.sync.next .invalid, partFrame := none }) locked many room run
    refine ⟨_, headSymbolLockLost_of_bad held inside bad (by rw [head]; rfl) (by rw [head]; rfl), ?_, fault, record, ?_⟩
    · rw [State.withHead_head, head]
      rfl
    · conv_lhs => rw [frame]
      rfl

/-- Settles O25: symbol by symbol; a lock lost inside a frame counts it once. -/
theorem headSymbolLock : Obligations.HeadSymbolLock := by
  intro s hears lost off
  have sync (xs : List Symbol) (outside : s.head.partFrame = none) (other : ∀ x ∈ xs, x ≠ .delimiter) :=
    exec_headFrameGood_sync xs (.inr ⟨other, outside⟩)
  refine ⟨rfl, fun _ => rfl, rfl, fun xs ys u => exec_headFrameGood_append, fun down => ?_, fun held => ?_⟩
  · have down : s.head.sync.held = false := down
    have unlocked : ¬ s.head.symbolLock = true := by rw [show s.head.symbolLock = false from down]; exact Bool.false_ne_true
    refine ⟨fun x hx => ?_, fun few => ?_, fun many => ?_, ?_, fun xs => if_neg unlocked⟩
    · rw [exec_headFrameGood_of_off down, SymbolLock.next_of_ne_idle down hx]
    · rw [exec_headFrameGood_of_off down, SymbolLock.next_idle_of_lt down few]
    · rw [exec_headFrameGood_of_off down, SymbolLock.next_idle_of_le down many]
    · refine (if_neg unlocked).trans ((exec_headFrameGood_sync [.idle, .idle, .idle] (.inl (by simp))).trans ?_)
      rw [SymbolLock.next_idles down]
      rfl
  · have lock : s.head.sync.held = true := held
    have idle : exec (.headFrameGood [.idle]) s = hears { s.head with sync := s.head.sync.heard } := by
      rw [exec_headFrameGood_sync [.idle] (.inl (by simp)), List.foldl_cons, List.foldl_nil,
        SymbolLock.next_of_held lock (x := .idle) (by simp)]
    refine ⟨if_pos held, fun xs => if_pos held, fun outside => ⟨?_, idle, fun b => ?_, fun few => ?_, ?_⟩,
      fun part inside => ⟨fun b more => ?_, idle, headSymbolLockLost_inside held inside⟩⟩
    · rw [exec_headFrameGood, List.foldl_cons, List.foldl_nil, Work.receiveHead_delimiter (Work.of s) lock outside]
      rfl
    · rw [sync [.data b] outside (by simp), List.foldl_cons, List.foldl_nil,
        SymbolLock.next_of_held lock (x := .data b) (by simp)]
    · rw [sync [.invalid] outside (by simp), List.foldl_cons, List.foldl_nil, SymbolLock.next_invalid_of_lt lock few]
    · refine (if_pos held).trans ((sync lost outside (by simp [lost])).trans ?_)
      rw [SymbolLock.next_invalids lock]
      simp only [hears, off, SymbolLock.none, ← outside]
    · have bytes := Work.receiveHead_bytes [b] (Work.of s) part lock inside more
      rw [exec_headFrameGood, show [Symbol.data b] = [b].map Symbol.data from rfl, bytes]
      rfl

end Sys2Proof.Machine
end

section
/-! SUPPORT. Good head frames in LOCKED, after a gap or without one (R3, R4). -/

namespace Sys2Proof.Machine

/-! ### Counting a frame, counting what was missed, and reports, in any order -/

theorem State.counted_reported (s : State) (seq : Byte) (c : Cause) :
    (s.counted seq).reported c = (s.reported c).counted seq := by
  rw [State.counted, State.withHead_reported, State.counted, State.reported_head]

theorem State.withRing_reported_asm (s : State) (asm : Assembler) (c : Cause) :
    (s.withRing { s.ring with asm := asm }).reported c =
      (s.reported c).withRing { (s.reported c).ring with asm := asm } := by
  have enabled : (s.withRing { s.ring with asm := asm }).reports c.cls = s.reports c.cls := rfl
  simp only [State.reported, enabled, State.withRing_causes]
  split_ifs <;> rfl

theorem State.addMissing_frame (s : State) (gap : Nat) :
    s.addMissing gap = s.withRing (s.addMissing gap).ring := by
  unfold State.addMissing
  split <;> rfl

theorem State.addMissing_of_opened {s : State} {r : RingContext} (opened : s.ring.asm = .opened r) (gap : Nat) :
    s.addMissing gap = s.withRing { s.ring with
      asm := .opened { r with framesMissing := satAdd 65535 r.framesMissing gap } } := by
  unfold State.addMissing
  rw [opened]

theorem State.addMissing_of_not_opened {s : State} (none : ∀ r, s.ring.asm ≠ .opened r) (gap : Nat) :
    s.addMissing gap = s := by
  unfold State.addMissing
  split
  · next r opened => exact absurd opened (none r)
  · rfl

/-! ### The frame handed over -/

/-- The state in which a good frame in LOCKED is handed over, `last` being the last sequence (R3, R4). -/
def State.admitted (s : State) (seq last : Byte) : State :=
  if seq = last + 1 then s.counted seq
  else ((s.addMissing (seq - (last + 1)).toNat).reported .headFrameLoss).counted seq

/-- A good frame in LOCKED that reveals a gap (R4). -/
theorem Work.goodFrame_of_gap {s : State} {seq last : Byte} {f : HeadFrame} (locked : s.head.lock = .locked)
    (previous : s.head.lastSeq = some last) (gap : seq ≠ last + 1) (room : s.room 1) :
    (Work.mk s none).goodFrame seq f =
      (Work.mk (((s.addMissing (seq - (last + 1)).toNat).reported .headFrameLoss).withHead
        { s.head with badRun := 0, lastSeq := some seq }) none).handOver f := by
  have found : s.head.gap seq = (seq - (last + 1)).toNat := by simp only [HeadLink.gap, previous]
  have some : (seq - (last + 1)).toNat ≠ 0 := fun none =>
    gap (sub_eq_zero.1 (BitVec.eq_of_toNat_eq (none.trans BitVec.toNat_zero.symm)))
  obtain ⟨v, hv⟩ : ∃ v, v = s.addMissing (seq - (last + 1)).toNat := ⟨_, rfl⟩
  have after : ((s.withHead { s.head with badRun := 0, lastSeq := .some seq }).addMissing (seq - (last + 1)).toNat) =
      v.withHead { s.head with badRun := 0, lastSeq := .some seq } := by
    rw [hv]
    unfold State.addMissing
    simp only [State.withHead_ring]
    split <;> rfl
  have roomAfter : (v.withHead { s.head with badRun := 0, lastSeq := .some seq }).room 1 :=
    State.room_congr (s := s) (by rw [hv, State.addMissing_frame]; rfl) room
  rw [Work.goodFrame, show (Work.mk s none).st = s from rfl, locked]
  unfold Work.checkGap
  dsimp only
  rw [found, Work.modify_mk, Work.modify_mk, after, decide_eq_true some, Work.raiseIf_true,
    Work.raise_mk (by decide) roomAfter, Work.settle_mk, State.withHead_reported, hv]

/-- A good frame in LOCKED is handed over (R3, R4). -/
theorem exec_headFrameGood_locked {s : State} {frame : List Byte} {seq last : Byte} {f : HeadFrame}
    (symbols : s.head.symbolLock = true) (between : s.head.partFrame = none) (locked : s.head.lock = .locked)
    (previous : s.head.lastSeq = some last) (content : parseHeadFrame frame = some (seq, f)) (room : s.room 1) :
    exec (.headFrameGood (framed frame)) s = ((Work.mk (s.admitted seq last) none).handOver f).done := by
  by_cases next : seq = last + 1
  · rw [State.admitted, if_pos next]
    exact State.Receives.exec_eq ⟨symbols, between, locked, content, by rw [previous, next, add_sub_cancel_right]⟩
  · refine (execHeadFrameGood_framed s frame seq f symbols between content).trans ?_
    rw [Work.of_eq, Work.goodFrame_of_gap (s := s.withHead { s.head with sync := s.head.sync.heard }) locked previous next
      (State.room_congr (s := s) rfl room), State.admitted, if_neg next]
    have after : (s.withHead { s.head with sync := s.head.sync.heard }).addMissing (seq - (last + 1)).toNat =
        (s.addMissing (seq - (last + 1)).toNat).withHead { s.head with sync := s.head.sync.heard } := by
      unfold State.addMissing
      simp only [State.withHead_ring]
      split <;> rfl
    have head : ((s.addMissing (seq - (last + 1)).toNat).reported .headFrameLoss).head = s.head := by
      rw [State.reported_head, State.addMissing_frame]
      rfl
    rw [after, State.withHead_reported, State.counted, head]
    rfl

/-! ### Frames that nothing takes -/

/-- With no ring open samples are discarded (R7). -/
theorem State.takeSamples_of_none {s : State} (none : ∀ r, s.ring.asm ≠ .opened r) (a0 step : Nat) (xs : List Sample)
    (j : Nat) : s.takeSamples a0 step j xs = s := by
  induction xs generalizing j with
  | nil => rfl
  | cons x xs ih =>
    have first : ∀ raw, s.takeSample raw x = s := by
      intro raw
      unfold State.takeSample
      split
      · next r opened => exact absurd opened (none r)
      · rfl
    rw [State.takeSamples, first, ih]

/-- With no ring open to count it in, a gap is reported alone (R4). -/
theorem State.admitted_of_not_opened {s : State} (none : ∀ r, s.ring.asm ≠ .opened r) (seq last : Byte) :
    s.admitted seq last = if seq = last + 1 then s.counted seq else (s.counted seq).reported .headFrameLoss := by
  rw [State.admitted, State.addMissing_of_not_opened none, State.counted_reported]

theorem State.admitted_asm_of_not_opened {s : State} (none : ∀ r, s.ring.asm ≠ .opened r) (seq last : Byte) :
    (s.admitted seq last).ring = s.ring := by
  rw [State.admitted_of_not_opened none]
  split
  · rfl
  · rw [State.reported_ring]
    rfl

/-- Settles O18: the frame is handed over as `exec_headFrameGood_locked` has it. -/
theorem sampleRunWithNoRing : Obligations.SampleRunWithNoRing := by
  intro s frame seq last f symbols between locked previous content room ignored
  have handed := exec_headFrameGood_locked symbols between locked previous content room
  refine ⟨fun a0 step xs samples none => ?_, fun counter start inactive => ?_, fun gap => ?_⟩
  · have same := State.admitted_asm_of_not_opened none seq last
    rw [handed, samples, Work.handOver, Work.modify_mk,
      State.takeSamples_of_none (by rw [same]; exact none), Work.done_mk, State.admitted_of_not_opened none]
  · have none : ∀ r, s.ring.asm ≠ .opened r := by rw [inactive]; nofun
    have same := State.admitted_asm_of_not_opened none seq last
    rw [handed, start, Work.handOver, Work.ringStart, show (Work.mk (s.admitted seq last) .none).st.ring = s.ring from same,
      inactive]
    dsimp only
    rw [Work.done_mk, State.admitted_of_not_opened none]
  · intro n missed
    have counts : missed = s.addMissing n := rfl
    have head : (missed.reported .headFrameLoss).head = s.head := by
      rw [State.reported_head, counts, State.addMissing_frame]
      rfl
    have received : ((missed.reported .headFrameLoss).withHead
        { s.head with badRun := 0, lastSeq := some (seq - 1) }).Receives frame seq f :=
      ⟨symbols, between, locked, content, rfl⟩
    rw [handed, received.exec_eq, State.admitted, if_neg gap, ← counts, State.counted, head]
    rfl

end Sys2Proof.Machine
end

section
/-! SUPPORT. The samples of a run taken into the open ring (R7, R23, R48, R160). -/

namespace Sys2Proof.Machine

/-! ### Counts that stop at a top -/

/-- One more and then `k` more are `k + 1` more (§0.5). -/
theorem satAdd_satInc (top n k : Nat) : satAdd top (satInc top n) k = satAdd top n (k + 1) := by
  unfold satAdd satInc
  split_ifs <;> omega

theorem satAdd_of_le {top n : Nat} (h : n ≤ top) (k : Nat) : satAdd top n k = min top (n + k) := by
  unfold satAdd
  omega

/-- A count raised once for every element that has a property. -/
theorem satAdd_countP_cons {α : Type} (top n : Nat) (p : α → Bool) (x : α) (xs : List α) :
    satAdd top (if p x then satInc top n else n) (xs.countP p) = satAdd top n ((x :: xs).countP p) := by
  by_cases h : p x = true
  · rw [if_pos h, satAdd_satInc, List.countP_cons_of_pos h]
  · rw [if_neg h, List.countP_cons_of_neg h]

/-! ### The ring's counts -/

/-- A ring's counts after samples of given classes and angles, in order (R7). -/
def RingContext.counted (r : RingContext) (ys : List (Validity × Nat)) : RingContext :=
  ys.foldl (fun r y => r.count y.1 y.2) r

theorem RingContext.counted_eq (r : RingContext) (ys : List (Validity × Nat)) : r.counted ys = { r with
    valid := satAdd Config.top32 r.valid (ys.countP fun y => y.1 = .valid)
    dropout := satAdd Config.top32 r.dropout (ys.countP fun y => y.1 = .dropout)
    outOfWindow := satAdd Config.top32 r.outOfWindow (ys.countP fun y => y.1 = .outOfWindow)
    lastAngle := ys.foldl (fun _ y => some y.2) r.lastAngle } := by
  induction ys generalizing r with
  | nil => simp [RingContext.counted, satAdd_zero]
  | cons y ys ih =>
    have first : r.count y.1 y.2 = { r with
        valid := if decide (y.1 = .valid) then satInc Config.top32 r.valid else r.valid
        dropout := if decide (y.1 = .dropout) then satInc Config.top32 r.dropout else r.dropout
        outOfWindow := if decide (y.1 = .outOfWindow) then satInc Config.top32 r.outOfWindow else r.outOfWindow
        lastAngle := some y.2 } := by
      obtain ⟨v, theta⟩ := y
      cases v <;> rfl
    rw [RingContext.counted, List.foldl_cons, ← RingContext.counted, ih, first, List.foldl_cons,
      ← satAdd_countP_cons _ _ (fun y : Validity × Nat => decide (y.1 = .valid)),
      ← satAdd_countP_cons _ _ (fun y : Validity × Nat => decide (y.1 = .dropout)),
      ← satAdd_countP_cons _ _ (fun y : Validity × Nat => decide (y.1 = .outOfWindow))]

/-! ### An accumulator -/

/-- The least clearance held after a clearance `q` is offered at an angle (R48). -/
def Least.offered (least : Option Least) (q : Option Int) (angle : Nat) : Option Least :=
  match q with
  | some q => if improves q least then some { clearance := q, angle := angle } else least
  | none => least

theorem Accumulator.foldl_add (a : Accumulator) (ys : List Solved) : ys.foldl Accumulator.add a =
    { valid := satAdd 255 a.valid ys.length
      infringing := satAdd 255 a.infringing (ys.countP fun y => y.point.judgement = .infringing)
      warning := satAdd 255 a.warning (ys.countP fun y => y.point.judgement = .warning)
      least := ys.foldl (fun l y => Least.offered l y.clearance y.point.angle) a.least } := by
  induction ys generalizing a with
  | nil => simp [satAdd_zero]
  | cons y ys ih =>
    have first : a.add y = {
        valid := satInc 255 a.valid
        infringing := if decide (y.point.judgement = .infringing) then satInc 255 a.infringing else a.infringing
        warning := if decide (y.point.judgement = .warning) then satInc 255 a.warning else a.warning
        least := Least.offered a.least y.clearance y.point.angle } := by
      simp only [Accumulator.add, decide_eq_true_eq, Least.offered] <;> rfl
    rw [List.foldl_cons, ih, first, List.foldl_cons, List.length_cons, ← satAdd_satInc,
      ← satAdd_countP_cons _ _ (fun y : Solved => decide (y.point.judgement = .infringing)),
      ← satAdd_countP_cons _ _ (fun y : Solved => decide (y.point.judgement = .warning))]

/-- Solved samples folded into the accumulators, each into its sector's (R36, R48). -/
def addAll (accumulators : Vector Accumulator 256) (ys : List Solved) : Vector Accumulator 256 :=
  ys.foldl (fun acc y => acc.set y.sector.val (acc[y.sector].add y)) accumulators

/-- A sector's accumulator takes the samples of its sector. -/
theorem getElem_addAll (accumulators : Vector Accumulator 256) (ys : List Solved) (i : Sector) :
    (addAll accumulators ys)[i] = (ys.filter fun y => y.sector = i).foldl Accumulator.add accumulators[i] := by
  induction ys generalizing accumulators with
  | nil => rfl
  | cons y ys ih =>
    rw [addAll, List.foldl_cons, ← addAll, ih, getElem_set_fin]
    by_cases same : y.sector = i
    · rw [if_pos same, List.filter_cons_of_pos (by simpa using same), List.foldl_cons]
      subst same
      rfl
    · rw [if_neg same, List.filter_cons_of_neg (by simpa using same)]

/-! ### A slot -/

/-- The points of the samples the stride does not pass over, `n` valid samples having come before (R160). -/
def chosenPoints (stride n : Nat) (ys : List Point) : List Point :=
  (ys.zipIdx.filter fun y => (n + y.2) % stride = 0).map (·.1)

theorem chosenPoints_cons (stride n : Nat) (y : Point) (ys : List Point) : chosenPoints stride n (y :: ys) =
    if n % stride = 0 then y :: chosenPoints stride (n + 1) ys else chosenPoints stride (n + 1) ys := by
  have later : ((ys.zipIdx 1).filter fun y => (n + y.2) % stride = 0).map (·.1) = chosenPoints stride (n + 1) ys := by
    rw [chosenPoints, List.zipIdx_succ, List.filter_map, List.map_map]
    simp only [Function.comp_def, Nat.add_assoc, Nat.add_comm 1]
  rw [chosenPoints, List.zipIdx_cons, List.filter_cons]
  by_cases h : n % stride = 0
  · rw [if_pos (by simpa using h), if_pos h, List.map_cons, later]
  · rw [if_neg (by simpa using h), if_neg h, later]

/-- What a FILLING slot holds after samples (R160). -/
theorem ProfileSlot.foldl_deliver (stride : Nat) {points : List Point} (few : points.length ≤ 4096) (n : Nat)
    (truncated : Bool) (ys : List Point) :
    ys.foldl (fun x y => ProfileSlot.deliver stride y x) (ProfileSlot.filling points n truncated) =
      .filling (points ++ (chosenPoints stride n ys).take (4096 - points.length)) (n + ys.length)
        (truncated || decide (4096 < points.length + (chosenPoints stride n ys).length)) := by
  induction ys generalizing points n truncated with
  | nil => simp [chosenPoints, few]
  | cons y ys ih =>
    have first : ProfileSlot.deliver stride y (.filling points n truncated) =
        if n % stride = 0 then
          if points.length < 4096 then .filling (points ++ [y]) (n + 1) truncated
          else .filling points (n + 1) true
        else .filling points (n + 1) truncated := rfl
    rw [List.foldl_cons, first, chosenPoints_cons, List.length_cons, show n + (ys.length + 1) = n + 1 + ys.length by omega]
    by_cases taken : n % stride = 0
    · rw [if_pos taken, if_pos taken]
      by_cases free : points.length < 4096
      · rw [if_pos free, ih (by rw [List.length_append]; exact free), List.append_assoc, List.singleton_append,
          ← List.take_succ_cons, List.length_append, List.length_singleton, List.length_cons,
          show 4096 - (points.length + 1) + 1 = 4096 - points.length by omega,
          show points.length + 1 + (chosenPoints stride (n + 1) ys).length =
            points.length + ((chosenPoints stride (n + 1) ys).length + 1) by omega]
      · have full : points.length = 4096 := by omega
        rw [if_neg free, ih few, full, List.length_cons]
        have more : decide (4096 < 4096 + ((chosenPoints stride (n + 1) ys).length + 1)) = true := by
          rw [decide_eq_true_eq]
          omega
        rw [more, Bool.true_or, Bool.or_true]
        rfl
    · rw [if_neg taken, if_neg taken, ih few]

/-- The slots after samples delivered to the ring's (R36, R160). -/
def deliverAll (r : RingContext) (slots : Vector ProfileSlot 3) (ys : List Point) : Vector ProfileSlot 3 :=
  match r.profileSlot with
  | some k => ys.foldl (fun slots y => slots.set k.val (slots[k].deliver r.stride y)) slots
  | none => slots

theorem getElem_foldl_set (k j : Fin 3) (stride : Nat) (slots : Vector ProfileSlot 3) (ys : List Point) :
    (ys.foldl (fun slots y => slots.set k.val (slots[k].deliver stride y)) slots)[j] =
      if k = j then ys.foldl (fun x y => ProfileSlot.deliver stride y x) slots[k] else slots[j] := by
  induction ys generalizing slots with
  | nil =>
    split
    · next same => rw [same]; rfl
    · rfl
  | cons y ys ih =>
    rw [List.foldl_cons, ih, List.foldl_cons, getElem_set_fin, getElem_set_fin, if_pos rfl]
    split
    · rfl
    · next other => rfl

theorem getElem_deliverAll_other {r : RingContext} {j : Fin 3} (other : r.profileSlot ≠ some j)
    (slots : Vector ProfileSlot 3) (ys : List Point) : (deliverAll r slots ys)[j] = slots[j] := by
  unfold deliverAll
  split
  · next k own => rw [getElem_foldl_set, if_neg fun same => other (by rw [own, same])]
  · rfl

theorem getElem_deliverAll {r : RingContext} {k : Fin 3} (own : r.profileSlot = some k)
    (slots : Vector ProfileSlot 3) (ys : List Point) :
    (deliverAll r slots ys)[k] = ys.foldl (fun x y => ProfileSlot.deliver r.stride y x) slots[k] := by
  rw [deliverAll, own]
  exact (getElem_foldl_set ..).trans (if_pos rfl)

end Sys2Proof.Machine
end

section
/-! SUPPORT. A SAMPLE_RUN taken into the open ring, sample by sample (R4, R7, R23, R36, R48, R160). -/

namespace Sys2Proof.Machine

/-! ### What the samples move -/

/-- What the samples of a run move: the open ring, the accumulators and the slots. -/
structure Sampling where
  ring : RingContext
  accumulators : Vector Accumulator 256
  slots : Vector ProfileSlot 3

/-- The state with them as the samples so far left them. -/
def State.withSampling (u : State) (p : Sampling) : State := { u with
  ring := { u.ring with asm := .opened p.ring }
  tracker := { u.tracker with accumulators := p.accumulators }
  link := { u.link with slots := p.slots } }

/-- One more sample, solved as in the ring `r` that is open (R7, R36). -/
def Sampling.take (u : State) (r : RingContext) (p : Sampling) (y : Sample × Nat) : Sampling :=
  { ring := p.ring.count (validity u y.1) y.2
    accumulators := if validity u y.1 = .valid then addAll p.accumulators [solve u r y.2 y.1] else p.accumulators
    slots := if validity u y.1 = .valid then deliverAll r p.slots [(solve u r y.2 y.1).point] else p.slots }

/-- The ring `x` is solved and sampled for as `r` is. -/
structure RingContext.SolvesAs (x r : RingContext) : Prop where
  slot : x.slot = r.slot
  warnMargin : x.warnMargin = r.warnMargin
  stride : x.stride = r.stride
  profileSlot : x.profileSlot = r.profileSlot

theorem RingContext.SolvesAs.count {x r : RingContext} (h : x.SolvesAs r) (v : Validity) (theta : Nat) :
    (x.count v theta).SolvesAs r := by
  obtain ⟨slot, warnMargin, stride, profileSlot⟩ := h
  cases v <;> exact ⟨slot, warnMargin, stride, profileSlot⟩

theorem State.takeSample_withSampling {u : State} {r : RingContext} {p : Sampling} (same : p.ring.SolvesAs r) (raw : Nat)
    (x : Sample) : (u.withSampling p).takeSample raw x = u.withSampling (p.take u r (x, correctedAngle u raw)) := by
  obtain ⟨slot, warnMargin, stride, profileSlot⟩ := same
  have solved : solve (u.withSampling p) p.ring (correctedAngle u raw) x = solve u r (correctedAngle u raw) x := by
    simp only [solve, slot, warnMargin]
    rfl
  have valid : validity (u.withSampling p) x = validity u x := rfl
  have angle : correctedAngle (u.withSampling p) raw = correctedAngle u raw := rfl
  unfold State.takeSample
  rw [show (u.withSampling p).ring.asm = .opened p.ring from rfl]
  dsimp only
  rw [valid, angle, solved]
  unfold Sampling.take
  by_cases h : validity u x = .valid
  · simp only [h, if_true]
    unfold State.deliver deliverAll
    simp only [stride, profileSlot]
    cases r.profileSlot <;> rfl
  · rw [if_neg h, if_neg h, if_neg h]
    rfl

/-- The samples of a run from sample `j` on (R7). -/
theorem State.takeSamples_withSampling {u : State} {r : RingContext} (a0 step : Nat) (xs : List Sample) (j : Nat)
    {p : Sampling} (same : p.ring.SolvesAs r) : (u.withSampling p).takeSamples a0 step j xs =
      u.withSampling ((xs.zipIdx j).foldl
        (fun p y => p.take u r (y.1, correctedAngle u ((a0 + y.2 * step) % 16384))) p) := by
  induction xs generalizing j p with
  | nil => rfl
  | cons x xs ih =>
    rw [State.takeSamples, State.takeSample_withSampling same, ih _ (by exact same.count _ _), List.zipIdx_cons,
      List.foldl_cons]

/-! ### What they have moved together -/

/-- The valid samples, solved. -/
def State.solvedOf (u : State) (r : RingContext) (ys : List (Sample × Nat)) : List Solved :=
  (ys.filter fun y => validity u y.1 = .valid).map fun y => solve u r y.2 y.1

theorem addAll_append (accumulators : Vector Accumulator 256) (xs ys : List Solved) :
    addAll accumulators (xs ++ ys) = addAll (addAll accumulators xs) ys := List.foldl_append

theorem deliverAll_append (r : RingContext) (slots : Vector ProfileSlot 3) (xs ys : List Point) :
    deliverAll r slots (xs ++ ys) = deliverAll r (deliverAll r slots xs) ys := by
  unfold deliverAll
  split
  · exact List.foldl_append
  · rfl

theorem deliverAll_nil (r : RingContext) (slots : Vector ProfileSlot 3) : deliverAll r slots [] = slots := by
  unfold deliverAll
  split <;> rfl

theorem RingContext.counted_cons (r : RingContext) (y : Validity × Nat) (ys : List (Validity × Nat)) :
    r.counted (y :: ys) = (r.count y.1 y.2).counted ys := rfl

/-- All samples of a run (R7, R36, R48, R160). -/
theorem Sampling.foldl_take (u : State) (r : RingContext) (p : Sampling) (ys : List (Sample × Nat)) :
    ys.foldl (fun p y => p.take u r y) p =
      { ring := p.ring.counted (ys.map fun y => (validity u y.1, y.2))
        accumulators := addAll p.accumulators (u.solvedOf r ys)
        slots := deliverAll r p.slots ((u.solvedOf r ys).map Solved.point) } := by
  induction ys generalizing p with
  | nil => simp [RingContext.counted, State.solvedOf, addAll, deliverAll_nil]
  | cons y ys ih =>
    rw [List.foldl_cons, ih, List.map_cons, RingContext.counted_cons]
    unfold State.solvedOf
    rw [List.filter_cons]
    by_cases h : validity u y.1 = .valid
    · rw [if_pos (by simpa using h), List.map_cons, List.map_cons, ← List.singleton_append, addAll_append,
        ← List.singleton_append (l := List.map Solved.point _), deliverAll_append, Sampling.take, if_pos h, if_pos h]
    · rw [if_neg (by simpa using h), Sampling.take, if_neg h, if_neg h]

end Sys2Proof.Machine
end

section
/-! SUPPORT. A SAMPLE_RUN taken into the open ring (R4, R7, R23, R36, R48, R160). -/

namespace Sys2Proof.Machine

/-! ### The frame admitted -/

/-- The state in which a frame is handed over with a ring open (R3, R4). -/
theorem State.admitted_of_opened {s : State} {r : RingContext} (opened : s.ring.asm = .opened r) (seq last : Byte) :
    s.admitted seq last =
      (if (seq - (last + 1)).toNat = 0 then s.counted seq else (s.counted seq).reported .headFrameLoss).withRing
        { s.ring with asm := .opened { r with
          framesMissing := satAdd 65535 r.framesMissing (seq - (last + 1)).toNat } } := by
  unfold State.admitted
  by_cases next : seq = last + 1
  · rw [if_pos next, if_pos (by rw [next, sub_self]; rfl), next, sub_self,
      show ((0 : Byte)).toNat = 0 from rfl, satAdd_zero, ← opened]
    rfl
  · have some : (seq - (last + 1)).toNat ≠ 0 := fun none =>
      next (sub_eq_zero.1 (BitVec.eq_of_toNat_eq (none.trans BitVec.toNat_zero.symm)))
    rw [if_neg next, if_neg some, State.addMissing_of_opened opened, State.withRing_reported_asm, State.counted_reported,
      State.reported_ring]
    rfl

/-- A sample is judged and solved by the values in effect and the envelopes alone. -/
structure State.SolvesAs (u s : State) : Prop where
  params : u.params = s.params
  envelopes : u.envelopes = s.envelopes

section
variable {u s : State} (h : u.SolvesAs s)
include h

theorem State.SolvesAs.eff (p : ParamId) : u.eff p = s.eff p := by rw [State.eff, h.params, State.eff]

theorem State.SolvesAs.validity (x : Sample) : Machine.validity u x = Machine.validity s x := by
  unfold Machine.validity rangeSum
  rw [show u.eff = s.eff from funext h.eff]

theorem State.SolvesAs.solve {r r' : RingContext} (same : r'.SolvesAs r) (theta : Nat) (x : Sample) :
    Machine.solve u r' theta x = Machine.solve s r theta x := by
  simp only [Machine.solve, limitOf, rangeSum, State.eff, h.params, h.envelopes, same.slot, same.warnMargin]

theorem State.SolvesAs.angle (raw : Nat) : correctedAngle u raw = correctedAngle s raw := by
  simp only [correctedAngle, State.effNat, State.eff, h.params]

end

/-! ### The samples, solved -/

/-- The corrected angle of sample `j` of a SAMPLE_RUN (R7, R24). -/
def State.angleAt (s : State) (a0 step j : Nat) : Nat := correctedAngle s ((a0 + j * step) % 16384)

/-- The valid samples of a SAMPLE_RUN with their places in it (R27). -/
def State.validOf (s : State) (xs : List Sample) : List (Sample × Nat) :=
  xs.zipIdx.filter fun x => validity s x.1 = .valid

/-- They, solved (R30 to R36). -/
def State.solvedRun (s : State) (r : RingContext) (a0 step : Nat) (xs : List Sample) : List Solved :=
  (s.validOf xs).map fun x => solve s r (s.angleAt a0 step x.2) x.1

/-- A SAMPLE_RUN handed over in a state `u` that solves as `s`, with a ring open that is solved as `r` (R7). -/
theorem State.takeSamples_eq {u s : State} (h : u.SolvesAs s) {r r' : RingContext} (same : r'.SolvesAs r)
    (opened : u.ring.asm = .opened r') (a0 step : Nat) (xs : List Sample) :
    u.takeSamples a0 step 0 xs = u.withSampling
      { ring := r'.counted (xs.zipIdx.map fun x => (validity s x.1, s.angleAt a0 step x.2))
        accumulators := addAll u.tracker.accumulators (s.solvedRun r a0 step xs)
        slots := deliverAll r u.link.slots ((s.solvedRun r a0 step xs).map Solved.point) } := by
  have start : u = u.withSampling { ring := r', accumulators := u.tracker.accumulators, slots := u.link.slots } := by
    unfold State.withSampling
    rw [← opened]
  have solved : u.solvedOf r (xs.zipIdx.map fun y => (y.1, s.angleAt a0 step y.2)) = s.solvedRun r a0 step xs := by
    simp only [State.solvedOf, State.solvedRun, State.validOf, List.filter_map, List.map_map, Function.comp_def, h.validity,
      h.solve ⟨rfl, rfl, rfl, rfl⟩]
  conv_lhs => rw [start]
  rw [State.takeSamples_withSampling (r := r) a0 step xs 0 same,
    show (fun (p : Sampling) (y : Sample × Nat) => p.take u r (y.1, correctedAngle u ((a0 + y.2 * step) % 16384))) =
      fun p y => p.take u r (y.1, s.angleAt a0 step y.2) by simp only [h.angle, State.angleAt],
    ← List.foldl_map (f := fun y : Sample × Nat => (y.1, s.angleAt a0 step y.2)), Sampling.foldl_take, solved,
    List.map_map]
  simp only [Function.comp_def, h.validity]

/-! ### The ring's counts -/

/-- The last angle is the last sample's (R7). -/
theorem foldl_lastAngle (g : Nat → Nat) (xs : List Sample) (j : Nat) (l : Option Nat) (some : xs ≠ []) :
    (xs.zipIdx j).foldl (fun _ y => .some (g y.2)) l = .some (g (j + (xs.length - 1))) := by
  induction xs generalizing j l with
  | nil => exact absurd rfl some
  | cons x xs ih =>
    rw [List.zipIdx_cons, List.foldl_cons]
    cases xs with
    | nil => rfl
    | cons y ys =>
      rw [ih _ _ (List.cons_ne_nil _ _)]
      simp only [List.length_cons]
      congr 2
      omega

theorem countP_zipIdx (p : Sample → Bool) (xs : List Sample) : xs.zipIdx.countP (fun x => p x.1) = xs.countP p := by
  conv_rhs => rw [← List.zipIdx_map_fst 0 xs, List.countP_map]
  rfl

/-- The ring after the samples of a run (R7). -/
theorem RingContext.counted_run (r : RingContext) (s : State) (g : Nat → Nat) {xs : List Sample} (some : xs ≠ [])
    (valid : r.valid ≤ Config.top32) (dropout : r.dropout ≤ Config.top32) (out : r.outOfWindow ≤ Config.top32) :
    r.counted (xs.zipIdx.map fun x => (validity s x.1, g x.2)) = { r with
      valid := min Config.top32 (r.valid + xs.countP fun x => validity s x = .valid)
      dropout := min Config.top32 (r.dropout + xs.countP fun x => validity s x = .dropout)
      outOfWindow := min Config.top32 (r.outOfWindow + xs.countP fun x => validity s x = .outOfWindow)
      lastAngle := .some (g (xs.length - 1)) } := by
  have count (v : Validity) : (xs.zipIdx.map fun x => (validity s x.1, g x.2)).countP (fun y => y.1 = v) =
      xs.countP fun x => validity s x = v := by
    rw [List.countP_map]
    exact countP_zipIdx (fun x => decide (validity s x = v)) xs
  rw [RingContext.counted_eq, count, count, count, satAdd_of_le valid, satAdd_of_le dropout, satAdd_of_le out,
    List.foldl_map, foldl_lastAngle g xs 0 _ some, Nat.zero_add]

/-! ### The accumulators -/

/-- The valid samples of a SAMPLE_RUN that meet sector `i` (R33). -/
def State.hitsOf (s : State) (a0 step : Nat) (xs : List Sample) (i : Sector) : List (Sample × Nat) :=
  (s.validOf xs).filter fun x => s.angleAt a0 step x.2 / 64 = i.val

theorem State.solvedRun_of_sector (s : State) (r : RingContext) (a0 step : Nat) (xs : List Sample) (i : Sector) :
    ((s.solvedRun r a0 step xs).filter fun y => y.sector = i) =
      (s.hitsOf a0 step xs i).map fun x => solve s r (s.angleAt a0 step x.2) x.1 := by
  have sector (theta : Nat) (h : theta < 16384) : sectorOf theta = i ↔ theta / 64 = i.val := by
    rw [← Fin.val_inj, sectorOf_val h]
  have small (j : Nat) : s.angleAt a0 step j < 16384 := Nat.mod_lt _ (by decide)
  simp only [State.solvedRun, List.filter_map, Function.comp_def, State.hitsOf, solve, sector _ (small _)]

/-- The limit a sector is judged by in a ring (R34). -/
def State.limitIn (s : State) (r : RingContext) (i : Sector) : Int :=
  match r.slot with
  | some k => (s.envelopes[k].live[i]).toNat
  | none => 0

section
variable {s : State} {r : RingContext} {a0 step : Nat} {xs : List Sample} {i : Sector} {x : Sample × Nat}
variable (hit : x ∈ s.hitsOf a0 step xs i)
include hit

theorem State.sector_of_hit : sectorOf (s.angleAt a0 step x.2) = i := by
  have small : s.angleAt a0 step x.2 < 16384 := Nat.mod_lt _ (by decide)
  have sector := (List.mem_filter.1 hit).2
  rw [decide_eq_true_eq] at sector
  exact Fin.ext ((sectorOf_val small).trans sector)

theorem State.clearance_of_hit : (solve s r (s.angleAt a0 step x.2) x.1).clearance =
    if s.limitIn r i = 0 then none else some (correctedRange (rangeSum s x.1) - s.limitIn r i) := by
  simp only [solve, judge_clearance, State.sector_of_hit hit, limitOf_eq]
  rfl

theorem State.judgement_of_hit : (solve s r (s.angleAt a0 step x.2) x.1).point.judgement =
    if s.limitIn r i = 0 then .unguarded
    else if correctedRange (rangeSum s x.1) < s.limitIn r i then .infringing
    else if correctedRange (rangeSum s x.1) - s.limitIn r i < r.warnMargin then .warning
    else .clear := by
  simp only [solve, judge_judgement, State.sector_of_hit hit, limitOf_eq]
  rfl

end

/-- A clearance offered to the least one held (R48). -/
theorem Least.offered_eq (l : Option Least) (limit range : Int) (theta : Nat) :
    Least.offered l (if limit = 0 then none else some (range - limit)) theta =
      let q : Least := { clearance := range - limit, angle := theta }
      if limit = 0 then l
      else match l with
        | none => some q
        | some m => if q.clearance < m.clearance then some q else some m := by
  dsimp only
  split
  · rfl
  · cases l with
    | none => rfl
    | some m => simp only [Least.offered, improves, decide_eq_true_eq]

/-- A sector's accumulator after a SAMPLE_RUN (R48). -/
theorem State.accumulator_after (s : State) (r : RingContext) (a0 step : Nat) (xs : List Sample) (i : Sector) :
    (addAll s.tracker.accumulators (s.solvedRun r a0 step xs))[i] =
      let hits := s.hitsOf a0 step xs i
      let limit := s.limitIn r i
      let a := s.tracker.accumulators[i]
      { valid := satAdd 255 a.valid hits.length
        infringing := satAdd 255 a.infringing
          (hits.countP fun x => limit ≠ 0 ∧ correctedRange (rangeSum s x.1) < limit)
        warning := satAdd 255 a.warning (hits.countP fun x => limit ≠ 0 ∧ limit ≤ correctedRange (rangeSum s x.1) ∧
          correctedRange (rangeSum s x.1) - limit < r.warnMargin)
        least := hits.foldl (fun l x =>
          let q : Least := { clearance := correctedRange (rangeSum s x.1) - limit, angle := s.angleAt a0 step x.2 }
          if limit = 0 then l
          else match l with
            | none => some q
            | some m => if q.clearance < m.clearance then some q else some m) a.least } := by
  dsimp only
  rw [getElem_addAll, State.solvedRun_of_sector, Accumulator.foldl_add, List.length_map, List.countP_map,
    List.countP_map, List.foldl_map]
  congr 1
  · refine congrArg (satAdd 255 _) (List.countP_congr fun x hx => ?_)
    simp only [Function.comp_apply, decide_eq_true_eq, State.judgement_of_hit hx]
    split_ifs <;> simp_all
  · refine congrArg (satAdd 255 _) (List.countP_congr fun x hx => ?_)
    simp only [Function.comp_apply, decide_eq_true_eq, State.judgement_of_hit hx]
    split_ifs <;> simp_all
  · refine List.foldl_ext _ _ _ fun l x hx => ?_
    rw [State.clearance_of_hit hx, Least.offered_eq]
    rfl

/-! ### The slot -/

theorem chosenPoints_map {α : Type} (stride n : Nat) (f : α → Point) (xs : List α) :
    chosenPoints stride n (xs.map f) = (xs.zipIdx.filter fun x => (n + x.2) % stride = 0).map fun x => f x.1 := by
  simp only [chosenPoints, List.zipIdx_map, List.filter_map, List.map_map, Function.comp_def, Prod.map, id]

/-- Settles O19: the frame admitted, its samples taken one by one, and what they move read part by part. -/
theorem sampleRunCounted : Obligations.SampleRunCounted := by
  intro s r frame seq last a0 stride xs symbols between locked previous content opened room valid dropout out missing
    gap u angle range limit chosen
  have some : xs ≠ [] := List.length_pos_iff.1 ((parseHeadFrame_sampleRun_iff frame seq a0 stride xs).1 content).1
  have handed := exec_headFrameGood_locked symbols between locked previous content room
  obtain ⟨r', hr'⟩ : ∃ r' : RingContext, r' = { r with framesMissing := satAdd 65535 r.framesMissing gap } := ⟨_, rfl⟩
  have admitted : s.admitted seq last = u.withRing { s.ring with asm := .opened r' } := by
    rw [State.admitted_of_opened opened, hr']
  have frameU : u = { s.counted seq with link := { s.link with events := u.link.events }, causes := u.causes } := by
    simp only [u]
    split
    · rfl
    · rw [State.reported_frame]
      rfl
  have solves : (u.withRing { s.ring with asm := .opened r' }).SolvesAs s := by
    constructor
    · rw [State.withRing_params, frameU]
      rfl
    · rw [State.withRing_envelopes, frameU]
      rfl
  have same : r'.SolvesAs r := by rw [hr']; exact ⟨rfl, rfl, rfl, rfl⟩
  have taken := State.takeSamples_eq solves same rfl a0.toNat stride.toNat xs
  rw [handed, admitted, Work.handOver, Work.modify_mk, Work.done_mk, taken]
  have trackerU : u.tracker = s.tracker := by rw [frameU]; rfl
  have slotsU : u.link.slots = s.link.slots := by rw [frameU]
  rw [State.withRing_tracker, State.withRing_link, trackerU, slotsU]
  refine ⟨_, rfl, ?_, fun i => ?_, fun k other => ?_, fun k points n truncated own filling few => ?_, ?_⟩
  · have counts := RingContext.counted_run r' s (s.angleAt a0.toNat stride.toNat) some
      (by rw [hr']; exact valid) (by rw [hr']; exact dropout) (by rw [hr']; exact out)
    rw [counts, hr', satAdd_of_le missing]
    rfl
  · have after := s.accumulator_after r a0.toNat stride.toNat xs i
    refine ⟨?_, ?_, ?_, ?_⟩
    · exact congrArg Accumulator.valid after
    · exact congrArg Accumulator.infringing after
    · exact congrArg Accumulator.warning after
    · exact congrArg Accumulator.least after
  · exact getElem_deliverAll_other other _ _
  · have after := (getElem_deliverAll own s.link.slots ((s.solvedRun r a0.toNat stride.toNat xs).map Solved.point)).trans
      (by rw [filling, ProfileSlot.foldl_deliver r.stride few])
    conv_rhs at after => rw [State.solvedRun, List.map_map, List.length_map, chosenPoints_map]
    exact after
  · simp only [State.withSampling, State.withRing, trackerU]

end Sys2Proof.Machine
end

section
/-! SUPPORT. The steps of an opening with room in the event queue, each the exact state it leaves (R8, R98, R102, R115,
R116, R122, R159). -/

namespace Sys2Proof.Machine

/-! ### The LIVE taking of an opening -/

/-- The state `t` is `s` with a new store and reports. -/
def State.StoresAnew (s t : State) : Prop :=
  t = { s with params := t.params, causes := t.causes, link := { s.link with events := t.link.events } }

section
variable (s : State) (x : ParamStore) (c : Cause)

theorem State.storesAnew_withParams : s.StoresAnew (s.withParams x) := rfl

theorem State.storesAnew_reported_withParams : s.StoresAnew ((s.reported c).withParams x) := by
  unfold State.StoresAnew
  conv_lhs => rw [State.reported_frame]
  rfl

theorem State.storesAnew_withParams_reported : s.StoresAnew ((s.withParams x).reported c) := by
  have frame := (s.withParams x).reported_frame c
  generalize (s.withParams x).reported c = t at frame
  rw [frame]
  rfl

end

/-- A LIVE taking moves the store, and reports (R150, R153). -/
theorem State.liveTaken_storesAnew (s : State) : s.StoresAnew s.liveTaken := by
  cases first : adjustedIn s.params.image .live with
  | nil =>
    rw [State.liveTaken_of_none first]
    exact State.storesAnew_withParams ..
  | cons p ids =>
    rw [State.liveTaken_of_first first]
    split
    · exact State.storesAnew_reported_withParams ..
    · exact State.storesAnew_withParams_reported ..

theorem State.liveTaken_params (s : State) : s.liveTaken.params = s.params.liveTaken := by
  cases first : adjustedIn s.params.image .live with
  | nil => rw [State.liveTaken_of_none first, State.withParams_params]
  | cons p ids =>
    rw [State.liveTaken_of_first first]
    split
    · exact State.withParams_params ..
    · exact (State.reported_params ..).trans (State.withParams_params ..)

/-- A LIVE taking leaves the RUN class (R150). -/
theorem State.liveTaken_eff (s : State) {p : ParamId} (h : (paramRow p).cls ≠ .live) : s.liveTaken.eff p = s.eff p := by
  rw [State.eff, State.eff, State.liveTaken_params]
  simp [ParamStore.liveTaken, ParamStore.taken, h]

/-- A waiting LIVE write taken (R151). -/
def State.liveIfWaiting (s : State) : State := if s.params.liveWaiting then s.liveTaken else s

theorem State.liveIfWaiting_storesAnew (s : State) : s.StoresAnew s.liveIfWaiting := by
  unfold State.liveIfWaiting
  split
  · exact s.liveTaken_storesAnew
  · rfl

theorem State.liveIfWaiting_eff (s : State) {p : ParamId} (h : (paramRow p).cls ≠ .live) :
    s.liveIfWaiting.eff p = s.eff p := by
  unfold State.liveIfWaiting
  split
  · exact s.liveTaken_eff h
  · rfl

theorem State.liveIfWaiting_room {s : State} {n : Nat} (h : s.room (n + 1)) : s.liveIfWaiting.room n := by
  unfold State.liveIfWaiting
  split
  · exact State.liveTaken_room h
  · exact State.room_mono h (by omega)

/-! ### The fix -/

/-- The state with the accumulator moved by a fix, clamped (R95, R98). -/
def State.movedBy (s : State) (f : Fix) : State := s.withOdo { s.odo with
  pendingFix := none
  accumulator := clamp Config.accumulatorMin Config.accumulatorMax (s.odo.accumulator + f.offset * Config.unitsPerMm) }

/-- CHAINAGE_LIMIT where the accumulator was clamped (R95). -/
def State.movedTold (s : State) (f : Fix) : State :=
  let sum := s.odo.accumulator + f.offset * Config.unitsPerMm
  if sum < Config.accumulatorMin ∨ Config.accumulatorMax < sum then (s.movedBy f).reported .chainageLimit
  else s.movedBy f

/-- The state with a pending fix applied (R98, R120, R122). -/
def State.fixedBy (s : State) (f : Fix) : State :=
  let t := s.movedTold f
  (t.withRoute { t.route with lastApplied := f.tagIndex }).recorded
    (.fix (f.record (if f.tagIndex.isSome then .applied else .manual) (some (s.chainage, (s.movedBy f).chainage))))

/-- The state once the pending fix, if any, is applied. -/
def State.fixApplied (s : State) : State :=
  match s.odo.pendingFix with
  | none => s
  | some f => s.fixedBy f

theorem State.movedTold_frame (s : State) (f : Fix) : s.movedTold f = { s with
    odo := (s.movedBy f).odo, causes := (s.movedTold f).causes
    link := { s.link with events := (s.movedTold f).link.events } } := by
  unfold State.movedTold
  dsimp only
  split
  · rw [State.reported_frame]
    rfl
  · rfl

theorem State.movedTold_room {s : State} {n : Nat} (f : Fix) (h : s.room (n + 1)) : (s.movedTold f).room n := by
  unfold State.movedTold
  dsimp only
  split
  · exact State.reported_room _ _ (State.room_congr (s := s) rfl h)
  · exact State.room_congr (s := s) rfl (State.room_mono h (by omega))

theorem Work.applyFix_mk {s : State} (x : Option Cause) (h : s.room 2) :
    (Work.mk s x).applyFix = { st := s.fixApplied, fatal := x } := by
  unfold Work.applyFix State.fixApplied
  dsimp only
  cases pending : s.odo.pendingFix with
  | none => rfl
  | some f =>
    dsimp only
    have clamped : ((Work.mk s x).modify fun s => s.withOdo { s.odo with pendingFix := none }).setAccumulator
        (s.odo.accumulator + f.offset * Config.unitsPerMm) = { st := s.movedTold f, fatal := x } := by
      have told := Work.raiseIf_mk (s := s.movedBy f) (x := x) (c := .chainageLimit)
        (b := decide (s.odo.accumulator + f.offset * Config.unitsPerMm < Config.accumulatorMin ∨
          Config.accumulatorMax < s.odo.accumulator + f.offset * Config.unitsPerMm)) (by decide)
        (State.room_congr (s := s) rfl (State.room_mono h (by omega)))
      simp only [decide_eq_true_eq] at told
      exact told
    have chainage : (s.movedTold f).chainage = (s.movedBy f).chainage := by
      rw [State.chainage, State.movedTold_frame, State.chainage]
    rw [clamped, Work.modify_mk, chainage]
    exact Work.queue_mk (s := (s.movedTold f).withRoute { (s.movedTold f).route with lastApplied := f.tagIndex }) _
      (State.room_congr (s := s.movedTold f) rfl (State.movedTold_room f h))

theorem State.fixApplied_frame (s : State) : s.fixApplied = { s with
    odo := { s.odo with pendingFix := none, accumulator := s.fixApplied.odo.accumulator }
    route := { s.route with lastApplied := s.fixApplied.route.lastApplied }
    causes := s.fixApplied.causes, link := { s.link with events := s.fixApplied.link.events } } := by
  unfold State.fixApplied
  split
  · next noFix => rw [← noFix]
  · unfold State.fixedBy
    dsimp only
    rw [State.movedTold_frame]
    rfl

theorem State.fixApplied_room {s : State} {n : Nat} (h : s.room (n + 2)) : s.fixApplied.room n := by
  unfold State.fixApplied
  split
  · exact State.room_mono h (by omega)
  · next f _ =>
    exact State.recorded_room _ _ (State.room_congr (s := s.movedTold f) rfl (State.movedTold_room f h))

/-! ### Reports under a condition -/

/-- The state with a cause reported where a condition holds. -/
def State.reportedIf (s : State) (b : Bool) (c : Cause) : State := if b then s.reported c else s

theorem State.reportedIf_frame (s : State) (b : Bool) (c : Cause) : s.reportedIf b c = { s with
    causes := (s.reportedIf b c).causes, link := { s.link with events := (s.reportedIf b c).link.events } } := by
  unfold State.reportedIf
  split
  · exact s.reported_frame c
  · rfl

theorem State.reportedIf_room {s : State} {n : Nat} (b : Bool) (c : Cause) (h : s.room (n + 1)) :
    (s.reportedIf b c).room n := by
  unfold State.reportedIf
  split
  · exact State.reported_room _ _ h
  · exact State.room_mono h (by omega)

/-! ### Spacing, segment and profile slot -/

/-- The state after the spacing test (R102). -/
def State.spacingTested (s : State) : State :=
  s.reportedIf (Machine.spacedWide (s.effNat Param.maxSpacing) (s.odo.spacing s.chainage)) .spacingWide

/-- The segment an opening selects (R115). -/
def State.selection (s : State) : Option Nat :=
  Machine.selectSegment s.route.entries (s.eff Param.hysteresis) s.route.current s.chainage

/-- The state after the segment selection (R115, R116). -/
def State.segmentSelected (s : State) : State :=
  (s.withRoute { s.route with current := s.selection }).reportedIf
    (decide (s.selection = none ∧ (s.ring.ringSeq = 1 ∨ s.route.current ≠ none))) .offRoute

theorem Work.selectSegment_mk {s : State} (x : Option Cause) (h : s.room 1) :
    (Work.mk s x).selectSegment = { st := s.segmentSelected, fatal := x } :=
  Work.raiseIf_mk (s := s.withRoute { s.route with current := s.selection }) (by decide) (State.room_congr rfl h)

theorem State.segmentSelected_room {s : State} {n : Nat} (h : s.room (n + 1)) : s.segmentSelected.room n :=
  State.reportedIf_room _ _ (State.room_congr rfl h)

/-- The slot an opening ring claims (R159). -/
def State.claim (s : State) : Option (Fin 3) :=
  if s.ring.ringSeq % s.effNat Param.decimation = 0 then s.link.freeSlot else none

/-- The state after the profile claim (R159). -/
def State.claimed (s : State) : State :=
  if s.ring.ringSeq % s.effNat Param.decimation = 0 then
    match s.link.freeSlot with
    | some k => s.withLink (s.link.setSlot k (.filling [] 0 false))
    | none => (s.withLink { s.link with
        skipped := satInc 65535 s.link.skipped
        runSkipped := satInc Config.top32 s.link.runSkipped }).reported .profileSkip
  else s

theorem Work.claimProfile_mk {s : State} (x : Option Cause) (h : s.room 1) :
    (Work.mk s x).claimProfile s.ring.ringSeq (s.effNat Param.decimation) =
      ({ st := s.claimed, fatal := x }, s.claim) := by
  unfold Work.claimProfile State.claimed State.claim
  split
  · dsimp only
    split
    · next found => rw [found]; rfl
    · next noSlot =>
      rw [noSlot, Work.modify_mk, Work.raise_mk (s := s.withLink { s.link with
        skipped := satInc 65535 s.link.skipped, runSkipped := satInc Config.top32 s.link.runSkipped }) (by decide)
        (State.room_congr (s := s) rfl h)]
  · rfl

theorem State.claimed_frame (s : State) : s.claimed = { s with causes := s.claimed.causes, link := s.claimed.link } := by
  unfold State.claimed
  split
  · split
    · rfl
    · rw [State.reported_frame]
      rfl
  · rfl

/-! ### The opening -/

/-- The state with the ring sequence raised (R8). -/
def State.renumbered (s : State) : State :=
  s.withRing { s.ring with ringSeq := satInc Config.top32 s.ring.ringSeq }

/-- The state once the steps of an opening before the profile claim are done (R8). -/
def State.openingSteps (s : State) : State :=
  s.renumbered.liveIfWaiting.fixApplied.spacingTested.segmentSelected

/-- The state once a ring has opened (R8, R14, R42, R47). -/
def State.ringOpened (s : State) : State :=
  let t := s.openingSteps.claimed.commitWaiting.withTracker s.openingSteps.claimed.tracker.emptied
  t.withRing { t.ring with
    asm := .opened (t.newContext s.odo.pendingFix.isSome s.openingSteps.claim), stall := some t.stallExpiry }

theorem Work.openRing_mk {s : State} (x : Option Cause) (h : s.room 6) :
    (Work.mk s x).openRing = { st := s.ringOpened, fatal := x } := by
  have room : s.renumbered.room 6 := State.room_congr rfl h
  have live := State.liveIfWaiting_room room
  have fixed := State.fixApplied_room live
  have spaced : s.renumbered.liveIfWaiting.fixApplied.spacingTested.room 2 := State.reportedIf_room _ _ fixed
  have selected : s.openingSteps.room 1 := State.segmentSelected_room spaced
  have steps : (Work.mk s x).openingSteps = ({ st := s.openingSteps.claimed, fatal := x }, s.openingSteps.claim) := by
    have taken : ((Work.mk s x).modify fun s => s.withRing
        { s.ring with ringSeq := satInc Config.top32 s.ring.ringSeq }).takeLiveIfWaiting =
        { st := s.renumbered.liveIfWaiting, fatal := x } :=
      Work.takeLiveIfWaiting_mk (s := s.renumbered) x (State.room_mono room (by omega))
    have tested (u : State) (h : u.room 1) :
        (Work.mk u x).raiseIf (Machine.spacedWide (u.effNat Param.maxSpacing) (u.odo.spacing u.chainage)) .spacingWide =
          { st := u.spacingTested, fatal := x } := Work.raiseIf_mk (by decide) h
    unfold Work.openingSteps
    rw [taken]
    dsimp only
    rw [Work.applyFix_mk x (State.room_mono live (by omega))]
    dsimp only
    rw [tested _ (State.room_mono fixed (by omega)), Work.selectSegment_mk x (State.room_mono spaced (by omega))]
    exact Work.claimProfile_mk (s := s.openingSteps) x selected
  unfold Work.openRing
  rw [steps]
  rfl

end Sys2Proof.Machine
end

section
/-! SUPPORT. A RING_START in WAITING (R8): the opening in the words of the rules it follows. -/

namespace Sys2Proof.Machine

/-! ### The fix in the words of R98 and R122 -/

theorem clamp_accumulator (sum : Int) :
    clamp Config.accumulatorMin Config.accumulatorMax sum = max (-2 ^ 48) (min (2 ^ 48 - 1) sum) := by
  unfold clamp Config.accumulatorMin Config.accumulatorMax
  split_ifs <;> omega

/-- The REFERENCE entry a fix came from. -/
def Fix.entry (f : Fix) : Option (Nat × Nat) :=
  match f.origin with
  | .tag i l => some (i, l)
  | .manual => none

theorem Fix.tagIndex_eq (f : Fix) : f.tagIndex = f.entry.map (·.1) := by
  unfold Fix.tagIndex Fix.entry
  cases f.origin <;> rfl

/-- The FIX record of a fix applied (R122). -/
theorem Fix.record_applied (f : Fix) (beforeAfter : Option (Int × Int)) :
    f.record (if f.tagIndex.isSome then .applied else .manual) beforeAfter =
      { status := if f.entry.isSome then .applied else .manual, isTag := f.entry.isSome, capture := f.capture
        reference := f.entry, offset := some f.offset, beforeAfter := beforeAfter } := by
  unfold Fix.record
  rw [Fix.tagIndex_eq, Option.isSome_map]
  rfl

/-- A fix applied (R98, R120, R122). -/
theorem State.fixedBy_eq (s : State) (f : Fix) : s.fixedBy f =
    let sum := s.odo.accumulator + f.offset * 131072
    let moved := s.withOdo { s.odo with pendingFix := none, accumulator := max (-2 ^ 48) (min (2 ^ 48 - 1) sum) }
    let told := if sum < -2 ^ 48 ∨ 2 ^ 48 - 1 < sum then moved.reported .chainageLimit else moved
    (told.withRoute { s.route with lastApplied := f.entry.map (·.1) }).recorded (.fix
      { status := if f.entry.isSome then .applied else .manual, isTag := f.entry.isSome, capture := f.capture
        reference := f.entry, offset := some f.offset, beforeAfter := some (s.chainage, moved.chainage) }) := by
  have moved : s.movedBy f = s.withOdo { s.odo with
      pendingFix := none
      accumulator := max (-2 ^ 48) (min (2 ^ 48 - 1) (s.odo.accumulator + f.offset * 131072)) } := by
    rw [State.movedBy, clamp_accumulator]
    rfl
  have told : s.movedTold f =
      if s.odo.accumulator + f.offset * 131072 < -2 ^ 48 ∨ 2 ^ 48 - 1 < s.odo.accumulator + f.offset * 131072 then
        (s.movedBy f).reported .chainageLimit
      else s.movedBy f := rfl
  have route : (s.movedTold f).route = s.route := by rw [State.movedTold_frame]
  unfold State.fixedBy
  dsimp only
  rw [route, Fix.record_applied, told, moved, Fix.tagIndex_eq]

/-! ### The segment in the words of R113 and R115 -/

/-- The start of the first SEGMENT, by the search for it. -/
theorem firstStart_eq_some_iff {table : List RouteEntry} {b : Int} :
    firstStart table = some b ↔ ∃ slot margin, table.find? RouteEntry.isSegment = some (.segment b slot margin) := by
  induction table with
  | nil => simp [firstStart]
  | cons e rest ih =>
    cases e with
    | segment start slot margin => simp [firstStart, RouteEntry.isSegment]
    | reference r l => simpa [firstStart, RouteEntry.isSegment] using ih

theorem belowEnd_iff {c h : Int} {table : List RouteEntry} : belowEnd c h (firstStart table) = true ↔
    ∀ b slot margin, table.find? RouteEntry.isSegment = some (.segment b slot margin) → c ≤ b + h := by
  have first : belowEnd c h (firstStart table) = true ↔ ∀ b, firstStart table = some b → c ≤ b + h := by
    cases firstStart table <;> simp [belowEnd]
  rw [first]
  constructor
  · exact fun all b slot margin found => all b (firstStart_eq_some_iff.2 ⟨slot, margin, found⟩)
  · intro all b start
    obtain ⟨slot, margin, found⟩ := firstStart_eq_some_iff.1 start
    exact all b slot margin found

/-- The band of the current segment (R113). -/
def InBand (table : List RouteEntry) (h : Int) (current : Option Nat) (c : Int) : Prop :=
  match current with
  | none => ∀ b slot margin, table.find? RouteEntry.isSegment = some (.segment b slot margin) → c ≤ b + h
  | some i => ∃ a slot margin, table[i]? = some (.segment a slot margin) ∧ a - h ≤ c ∧
      ∀ b next wider, (table.drop (i + 1)).find? RouteEntry.isSegment = some (.segment b next wider) → c ≤ b + h

theorem inBand_iff {table : List RouteEntry} {h : Int} {current : Option Nat} {c : Int} :
    inBand table h current c = true ↔ InBand table h current c := by
  unfold inBand InBand
  cases current with
  | none => exact belowEnd_iff
  | some i =>
    dsimp only
    cases table[i]? with
    | none => simp
    | some e =>
      cases e with
      | segment a slot margin => simp [belowEnd_iff]
      | reference r l => simp

/-! ### Spacing and slots -/

/-- The spacing test (R102). -/
theorem spacedWide_eq (max : Nat) (spacing : Option Nat) : spacedWide max spacing =
    match spacing with
    | some d => decide (max ≠ 0 ∧ max < d)
    | none => false := by
  unfold spacedWide
  cases spacing <;> simp

theorem ProfileSlot.isFree_eq (x : ProfileSlot) : x.isFree = decide (x = .free) := by
  cases x <;> simp [ProfileSlot.isFree]

theorem RecorderLink.freeSlot_eq (l : RecorderLink) :
    l.freeSlot = (List.finRange 3).find? fun k => l.slots[k] = .free := by
  simp only [RecorderLink.freeSlot, ProfileSlot.isFree_eq]

/-! ### What the steps of an opening leave -/

/-- What an opening has done before the profile claim. -/
structure State.StepsTo (s t : State) : Prop where
  clock : t.clock = s.clock
  ring : t.ring = { s.ring with ringSeq := satInc Config.top32 s.ring.ringSeq }
  envelopes : t.envelopes = s.envelopes
  tracker : t.tracker = s.tracker
  direction : t.odo.direction = s.odo.direction
  spacingRef : t.odo.spacingRef = s.odo.spacingRef
  entries : t.route.entries = s.route.entries
  slots : t.link.slots = s.link.slots
  skipped : t.link.skipped = s.link.skipped
  runSkipped : t.link.runSkipped = s.link.runSkipped
  eff : ∀ p, (paramRow p).cls ≠ .live → t.eff p = s.eff p

section
variable {s t : State}

theorem State.StepsTo.reportedIf (h : s.StepsTo t) (b : Bool) (c : Cause) : s.StepsTo (t.reportedIf b c) := by
  obtain ⟨clock, ring, envelopes, tracker, direction, spacingRef, entries, slots, skipped, runSkipped, eff⟩ := h
  have frame := t.reportedIf_frame b c
  generalize t.reportedIf b c = u at frame
  constructor <;> rw [frame] <;> assumption

theorem State.stepsTo_live (s : State) : s.StepsTo s.renumbered.liveIfWaiting := by
  have eff := fun (p : ParamId) (h : (paramRow p).cls ≠ .live) => s.renumbered.liveIfWaiting_eff h
  have frame : s.renumbered.StoresAnew s.renumbered.liveIfWaiting := s.renumbered.liveIfWaiting_storesAnew
  generalize s.renumbered.liveIfWaiting = u at eff frame
  unfold State.StoresAnew at frame
  refine ⟨?_, ?_, ?_, ?_, ?_, ?_, ?_, ?_, ?_, ?_, eff⟩ <;> rw [frame] <;> rfl

theorem State.StepsTo.fixApplied (h : s.StepsTo t) : s.StepsTo t.fixApplied := by
  obtain ⟨clock, ring, envelopes, tracker, direction, spacingRef, entries, slots, skipped, runSkipped, eff⟩ := h
  have frame := t.fixApplied_frame
  generalize t.fixApplied = u at frame
  constructor <;> rw [frame] <;> assumption

theorem State.StepsTo.withCurrent (h : s.StepsTo t) (sel : Option Nat) :
    s.StepsTo (t.withRoute { t.route with current := sel }) := by
  obtain ⟨clock, ring, envelopes, tracker, direction, spacingRef, entries, slots, skipped, runSkipped, eff⟩ := h
  exact ⟨clock, ring, envelopes, tracker, direction, spacingRef, entries, slots, skipped, runSkipped, eff⟩

end

end Sys2Proof.Machine
end

section
/-! SUPPORT. A RING_START in WAITING (R8). -/

namespace Sys2Proof.Machine

theorem State.StepsTo.of_counted {s t : State} {seq : Byte} (h : (s.counted seq).StepsTo t) : s.StepsTo t := by
  obtain ⟨clock, ring, envelopes, tracker, direction, spacingRef, entries, slots, skipped, runSkipped, eff⟩ := h
  exact ⟨clock, ring, envelopes, tracker, direction, spacingRef, entries, slots, skipped, runSkipped, eff⟩

/-- A RING_START in WAITING opens a ring (R8, R9). -/
theorem State.Receives.exec_waiting {s : State} {frame : List Byte} {seq : Byte} {counter : BitVec 16}
    (received : s.Receives frame seq (.ringStart counter)) (waiting : s.ring.asm = .waiting) :
    exec (.headFrameGood (framed frame)) s = (Work.mk (s.counted seq) none).openRing.done := by
  have asm : (Work.mk (s.counted seq) none).st.ring.asm = .waiting := waiting
  rw [received.exec_eq, Work.handOver, Work.ringStart, asm]

/-- The state once a ring has opened, from what its steps left (R8, R14, R42, R47). -/
theorem State.ringOpened_eq {s t : State} (steps : s.StepsTo t) (fixApplied : Bool) (claim : Option (Fin 3)) :
    let v := t.claimed.commitWaiting.withTracker t.claimed.tracker.emptied
    v.withRing { v.ring with asm := .opened (v.newContext fixApplied claim), stall := some v.stallExpiry } =
      { t.claimed with
        envelopes := s.waitingLive
        tracker := { s.tracker with accumulators := Vector.replicate 256 .empty }
        ring := { s.ring with
          ringSeq := satInc Config.top32 s.ring.ringSeq
          stall := some (s.clock.timeBase + BitVec.ofNat 32 (4 * s.effNat Param.revPeriod))
          asm := .opened
            { sequence := satInc Config.top32 s.ring.ringSeq, openTime := s.clock.timeBase, chainage := t.chainage
              spacing := s.odo.spacing t.chainage, direction := s.odo.direction, segment := t.route.current
              slot := slotOf s.route.entries t.route.current
              warnMargin := marginOf s.route.entries t.route.current (t.effNat Param.warnMargin)
              decimation := t.effNat Param.decimation, stride := 2 ^ t.effNat Param.pointStride, profileSlot := claim
              heldMark := none, valid := 0, dropout := 0, outOfWindow := 0, framesMissing := 0, lastAngle := none
              spacedWide := Machine.spacedWide (t.effNat Param.maxSpacing) (s.odo.spacing t.chainage)
              fixApplied := fixApplied } } } := by
  obtain ⟨clock, ring, envelopes, tracker, direction, spacingRef, entries, -, -, -, eff⟩ := steps
  have frame := t.claimed_frame
  have spacing : t.odo.spacing t.chainage = s.odo.spacing t.chainage := by
    rw [Odometer.spacing, spacingRef, Odometer.spacing]
  have period : t.effNat Param.revPeriod = s.effNat Param.revPeriod := by
    rw [State.effNat, eff _ (by decide), State.effNat]
  generalize t.claimed = u at frame
  dsimp only
  have expiry : (u.commitWaiting.withTracker u.tracker.emptied).stallExpiry =
      s.clock.timeBase + BitVec.ofNat 32 (4 * s.effNat Param.revPeriod) := by
    rw [frame, ← clock, ← period]
    rfl
  have context : (u.commitWaiting.withTracker u.tracker.emptied).newContext fixApplied claim =
      { sequence := satInc Config.top32 s.ring.ringSeq, openTime := s.clock.timeBase, chainage := t.chainage
        spacing := s.odo.spacing t.chainage, direction := s.odo.direction, segment := t.route.current
        slot := slotOf s.route.entries t.route.current
        warnMargin := marginOf s.route.entries t.route.current (t.effNat Param.warnMargin)
        decimation := t.effNat Param.decimation, stride := 2 ^ t.effNat Param.pointStride, profileSlot := claim
        heldMark := none, valid := 0, dropout := 0, outOfWindow := 0, framesMissing := 0, lastAngle := none
        spacedWide := Machine.spacedWide (t.effNat Param.maxSpacing) (s.odo.spacing t.chainage)
        fixApplied := fixApplied } := by
    rw [frame, ← clock, ← direction, ← entries, ← spacing,
      show satInc Config.top32 s.ring.ringSeq = t.ring.ringSeq by rw [ring]]
    rfl
  have ringU : u.ring = { s.ring with ringSeq := satInc Config.top32 s.ring.ringSeq } := by rw [frame]; exact ring
  have trackerU : u.tracker = s.tracker := by rw [frame]; exact tracker
  have envelopesU : u.envelopes = s.envelopes := by rw [frame]; exact envelopes
  rw [expiry, context]
  simp only [State.commitWaiting, State.withTracker, State.withRing, State.withEnvelopes, SectorTracker.emptied, ringU,
    trackerU, envelopesU]
  rfl

/-- The spacing test reports (R102). -/
theorem State.spacingTested_frame (s : State) : s.spacingTested = { s with
    causes := s.spacingTested.causes, link := { s.link with events := s.spacingTested.link.events } } :=
  s.reportedIf_frame _ _

/-- The segment selection sets the current segment, and reports (R115, R116). -/
theorem State.segmentSelected_frame (s : State) : s.segmentSelected = { s with
    route := { s.route with current := s.selection }, causes := s.segmentSelected.causes
    link := { s.link with events := s.segmentSelected.link.events } } :=
  (s.withRoute { s.route with current := s.selection }).reportedIf_frame _ _

/-- The profile claim in the words of R159, for a ring whose profile is wanted or not. -/
theorem State.claim_eq {s t : State} (steps : s.StepsTo t) {wanted : Bool} :
    (t.ring.ringSeq % t.effNat Param.decimation = 0 ↔ wanted = true) →
    let free := (List.finRange 3).find? fun k => s.link.slots[k] = .free
    t.claim = (if wanted then free else none) ∧
    t.claimed =
      match wanted, free with
      | false, _ => t
      | true, some k => t.withLink { t.link with slots := s.link.slots.set k (.filling [] 0 false) }
      | true, none => (t.withLink { t.link with
          skipped := satInc 65535 s.link.skipped
          runSkipped := satInc Config.top32 s.link.runSkipped }).reported .profileSkip := by
  intro h free
  have free_eq : t.link.freeSlot = free := by rw [RecorderLink.freeSlot_eq, steps.slots]
  constructor
  · rw [State.claim, free_eq]
    simp only [h]
  · rw [State.claimed, free_eq]
    simp only [h]
    cases wanted
    · rfl
    · cases free with
      | none =>
        rw [steps.skipped, steps.runSkipped]
        rfl
      | some k =>
        unfold RecorderLink.setSlot
        rw [steps.slots]
        rfl

/-- Settles O20: the steps in their order, each as its lemma has it. -/
theorem ringOpens : Obligations.RingOpens := by
  intro s frame seq counter received waiting room number raised live fixed c spacing wide spaced band
  obtain ⟨u, hu⟩ : ∃ u, u = s.counted seq := ⟨_, rfl⟩
  have steps₁ : s.StepsTo u.renumbered.liveIfWaiting := by rw [hu]; exact (State.stepsTo_live _).of_counted
  have odo₁ : u.renumbered.liveIfWaiting.odo = s.odo := by
    rw [u.renumbered.liveIfWaiting_storesAnew, hu]
    rfl
  have route₁ : u.renumbered.liveIfWaiting.route = s.route := by
    rw [u.renumbered.liveIfWaiting_storesAnew, hu]
    rfl
  have live_eq : live = u.renumbered.liveIfWaiting := by
    rw [hu]
    rfl
  rw [← live_eq] at steps₁ odo₁ route₁
  clear_value live
  have fixed_eq : fixed = live.fixApplied := by
    have chainage : live.chainage = s.chainage := by rw [State.chainage, odo₁, State.chainage]
    unfold State.fixApplied
    rw [odo₁]
    simp only [fixed]
    cases s.odo.pendingFix with
    | none => rfl
    | some f =>
      dsimp only
      rw [State.fixedBy_eq, odo₁, route₁, chainage]
      rfl
  have steps₂ : s.StepsTo fixed := fixed_eq ▸ steps₁.fixApplied
  have current₂ : fixed.route.current = s.route.current := by rw [fixed_eq, State.fixApplied_frame, ← route₁]
  clear_value fixed
  have wide_eq : wide = Machine.spacedWide (fixed.effNat Param.maxSpacing) (fixed.odo.spacing c) := by
    rw [spacedWide_eq, Odometer.spacing, steps₂.spacingRef]
    rfl
  have spaced_eq : spaced = fixed.spacingTested := by
    rw [State.spacingTested, State.reportedIf, ← wide_eq]
  have frame₃ := fixed.spacingTested_frame
  rw [← spaced_eq] at frame₃
  have steps₃ : s.StepsTo spaced := spaced_eq ▸ steps₂.reportedIf _ _
  clear_value spaced
  have selection : spaced.selection =
      Machine.selectSegment s.route.entries (s.eff Param.hysteresis) s.route.current c := by
    rw [State.selection, steps₃.entries, steps₃.eff _ (by decide), frame₃, current₂]
    rfl
  have band_iff : band ↔ inBand s.route.entries (s.eff Param.hysteresis) s.route.current c = true := inBand_iff.symm
  refine ⟨spaced.selection, fun inside => ?_, fun outside => ?_, ?_⟩
  · rw [selection, Machine.selectSegment, if_pos (band_iff.1 inside)]
  · rw [selection, Machine.selectSegment, if_neg fun inside => outside (band_iff.2 inside)]
  intro routed chosen wanted free claimed
  have chosen_eq : chosen = spaced.segmentSelected := by
    rw [State.segmentSelected, State.reportedIf, steps₃.ring,
      show spaced.route.current = s.route.current by rw [frame₃]; exact current₂]
    simp only [decide_eq_true_eq]
    rfl
  have frame₄ := spaced.segmentSelected_frame
  have steps₄ : s.StepsTo chosen := chosen_eq ▸ (steps₃.withCurrent _).reportedIf _ _
  rw [← chosen_eq] at frame₄
  have current₄ : chosen.route.current = spaced.selection := by rw [frame₄]
  have odo₄ : chosen.odo = fixed.odo := by rw [frame₄, frame₃]
  have params₄ : chosen.params = fixed.params := by rw [frame₄, frame₃]
  have effNat₄ (p : ParamId) : chosen.effNat p = fixed.effNat p := by
    rw [State.effNat, State.eff, params₄, State.effNat, State.eff]
  have chainage₄ : chosen.chainage = c := by rw [State.chainage, odo₄]; rfl
  have steps_eq : u.openingSteps = chosen := by
    rw [State.openingSteps, ← live_eq, ← fixed_eq, ← spaced_eq, ← chosen_eq]
  clear_value chosen
  have wanted_iff : chosen.ring.ringSeq % chosen.effNat Param.decimation = 0 ↔ wanted = true := by
    rw [steps₄.ring, effNat₄, decide_eq_true_iff]
    rfl
  obtain ⟨claim_eq, claimed_eq⟩ := State.claim_eq steps₄ wanted_iff
  have claimed_eq : claimed = chosen.claimed := claimed_eq.symm
  have pending : u.odo.pendingFix = s.odo.pendingFix := by rw [hu]; rfl
  rw [received.exec_waiting waiting, ← hu, Work.openRing_mk none (by rw [hu]; exact State.room_congr rfl room), Work.done_mk,
    State.ringOpened, steps_eq, pending, State.ringOpened_eq steps₄, chainage₄, current₄, effNat₄, effNat₄, effNat₄,
    effNat₄, claim_eq, claimed_eq, spacedWide_eq]
  rfl

end Sys2Proof.Machine
end

section
/-! SUPPORT. An opening whatever room the event queue has: what it leaves, and that a lost record is the only fatal cause it
can bring (R8, R142, R158). -/

namespace Sys2Proof.Machine

/-! ### A lost record is the only fatal cause in hand -/

/-- The fatal cause in hand, if any, is a lost record's (R142). -/
def Work.OnlyLoss (w : Work) : Prop := ∀ c, w.fatal = some c → c = .eventLoss

namespace Work.OnlyLoss

variable {w : Work}

theorem of_none {s : State} : (Work.mk s none).OnlyLoss := nofun

theorem modify (h : w.OnlyLoss) (f : State → State) : (w.modify f).OnlyLoss := h

theorem of_fatal {v : Work} (h : w.OnlyLoss) (same : v.fatal = w.fatal) : v.OnlyLoss :=
  fun c hc => h c (same.symm.trans hc)

theorem lose (h : w.OnlyLoss) : w.lose.OnlyLoss := by
  intro c fatal
  unfold Work.lose Work.markFatal at fatal
  split at fatal
  · exact (Option.some.inj fatal).symm
  · exact h c fatal

theorem queue (h : w.OnlyLoss) (b : EventBody) : (w.queue b).OnlyLoss := by
  unfold Work.queue
  split
  · exact h
  · exact h.lose

theorem raise (h : w.OnlyLoss) {c : Cause} (hc : c.cls ≠ .fatal) : (w.raise c).OnlyLoss := by
  unfold Work.raise
  rw [if_neg hc]
  dsimp only
  split
  · exact h
  · split
    · exact (h.modify _).queue _
    · exact h

theorem raiseIf (h : w.OnlyLoss) (b : Bool) {c : Cause} (hc : c.cls ≠ .fatal) : (w.raiseIf b c).OnlyLoss := by
  cases b
  · exact h
  · exact h.raise hc

theorem foldl {α : Type} {f : Work → α → Work} (xs : List α) (hf : ∀ (w : Work), ∀ x ∈ xs, w.OnlyLoss → (f w x).OnlyLoss)
    (h : w.OnlyLoss) : (xs.foldl f w).OnlyLoss := by
  induction xs generalizing w with
  | nil => exact h
  | cons x xs ih => exact ih (fun w y hy => hf w y (by simp [hy])) (hf w x (by simp) h)

theorem takeLiveIfWaiting (h : w.OnlyLoss) : w.takeLiveIfWaiting.OnlyLoss := by
  unfold Work.takeLiveIfWaiting
  split
  · rw [show w = Work.mk w.st w.fatal from rfl, Work.takeLive_eq]
    refine foldl _ (fun v p _ hv => ?_) (h.of_fatal rfl)
    unfold Work.takeOne
    exact (hv.modify _).raiseIf _ (by decide)
  · exact h

theorem applyFix (h : w.OnlyLoss) : w.applyFix.OnlyLoss := by
  unfold Work.applyFix
  split
  · exact h
  · exact .queue (.modify (.raiseIf ((h.modify _).modify _) _ (by decide)) _) _

theorem selectSegment (h : w.OnlyLoss) : w.selectSegment.OnlyLoss := (h.modify _).raiseIf _ (by decide)

theorem claimProfile (h : w.OnlyLoss) (n d : Nat) : (w.claimProfile n d).1.OnlyLoss := by
  unfold Work.claimProfile
  split
  · split
    · exact h
    · exact (h.modify _).raise (by decide)
  · exact h

theorem openRing (h : w.OnlyLoss) : w.openRing.OnlyLoss :=
  (claimProfile (.selectSegment (.raiseIf (.applyFix (.takeLiveIfWaiting (h.modify _))) _ (by decide))) _ _).modify _

theorem queueMark (h : w.OnlyLoss) (r : RingContext) (x : RingStatus) : (w.queueMark r x).OnlyLoss := by
  unfold Work.queueMark
  split
  · exact h.queue _
  · exact h

end Work.OnlyLoss

/-! ### What the steps of an opening leave -/

/-- What the steps of an opening before the profile claim change of `s` (R8). -/
structure State.Advances (s t : State) : Prop where
  frame : t = { s with
    params := t.params, odo := { s.odo with pendingFix := t.odo.pendingFix, accumulator := t.odo.accumulator }
    route := t.route, causes := t.causes, link := { s.link with events := t.link.events } }
  flags : ∀ c : Cause, flagSet s.causes c = true → flagSet t.causes c = true

section
variable {s t u : State}

theorem State.Advances.trans (h : s.Advances t) (k : t.Advances u) : s.Advances u := by
  refine ⟨?_, fun c hc => k.flags c (h.flags c hc)⟩
  have first := h.frame
  have second := k.frame
  conv_lhs => rw [second]
  generalize u.params = params, u.odo = odo, u.route = route, u.causes = causes, u.link.events = events
  rw [first]

theorem State.Takes.advances (h : s.Takes t) : s.Advances t := by
  have frame := h.frame
  refine ⟨?_, h.flags⟩
  have odo : t.odo = s.odo := by rw [frame]
  have route : t.route = s.route := by rw [frame]
  rw [odo, route]
  exact frame

theorem State.Reports.advances (h : s.Reports t) : s.Advances t := h.takes.advances

end

section
variable (s : State)

theorem State.advances_withRoute (x : RouteUnit) : s.Advances (s.withRoute x) := ⟨rfl, fun _ h => h⟩

theorem State.advances_withOdo (fix : Option Fix) (accumulator : Int) :
    s.Advances (s.withOdo { s.odo with pendingFix := fix, accumulator := accumulator }) := ⟨rfl, fun _ h => h⟩

end

section
variable (w : Work) {f : State → State} (h : w.st.Advances (f w.st))
include h

theorem Work.modify_raiseIf_advances (b : Bool) (c : Cause) : w.st.Advances ((w.modify f).raiseIf b c).st :=
  h.trans ((w.modify f).raiseIf_reports b c).advances

theorem Work.modify_queue_advances (b : EventBody) : w.st.Advances ((w.modify f).queue b).st :=
  h.trans ((w.modify f).queue_reports b).advances

end

theorem Work.setAccumulator_advances (w : Work) (sum : Int) : w.st.Advances (w.setAccumulator sum).st := by
  unfold Work.setAccumulator
  exact w.modify_raiseIf_advances (w.st.advances_withOdo _ _) _ _

theorem Work.applyFix_advances (w : Work) : w.st.Advances w.applyFix.st := by
  unfold Work.applyFix
  split
  · exact (State.Takes.refl _).advances
  · next f _ =>
    dsimp only
    have moved := (w.st.advances_withOdo none w.st.odo.accumulator).trans
      ((w.modify fun s => s.withOdo { s.odo with pendingFix := none }).setAccumulator_advances
        (w.st.odo.accumulator + f.offset * Config.unitsPerMm))
    generalize (w.modify fun s => s.withOdo { s.odo with pendingFix := none }).setAccumulator
      (w.st.odo.accumulator + f.offset * Config.unitsPerMm) = v at moved
    exact moved.trans (v.modify_queue_advances (v.st.advances_withRoute _) _)

theorem Work.selectSegment_advances (w : Work) : w.st.Advances w.selectSegment.st := by
  unfold Work.selectSegment
  exact w.modify_raiseIf_advances (w.st.advances_withRoute _) _ _

/-- What an opening changes of `s` (R8). -/
structure State.Opens (s t : State) : Prop where
  frame : t = { s with
    ring := t.ring, params := t.params, envelopes := t.envelopes, tracker := s.tracker.emptied
    odo := { s.odo with pendingFix := t.odo.pendingFix, accumulator := t.odo.accumulator }, route := t.route
    causes := t.causes, link := t.link }
  ring : ∃ r, t.ring = { s.ring with
    asm := .opened r, ringSeq := satInc Config.top32 s.ring.ringSeq, stall := t.ring.stall } ∧
      r.sequence = satInc Config.top32 s.ring.ringSeq
  slots : ∀ k : Fin 3, s.link.slots[k] ≠ .free → t.link.slots[k] = s.link.slots[k]
  flags : ∀ c : Cause, flagSet s.causes c = true → flagSet t.causes c = true

/-- What the profile claim changes of `s` (R159). -/
structure State.Claims (s t : State) : Prop where
  frame : t = { s with causes := t.causes, link := t.link }
  slots : ∀ k : Fin 3, s.link.slots[k] ≠ .free → t.link.slots[k] = s.link.slots[k]
  flags : ∀ c : Cause, flagSet s.causes c = true → flagSet t.causes c = true

theorem Work.claimProfile_claims (w : Work) (n d : Nat) : w.st.Claims (w.claimProfile n d).1.st := by
  unfold Work.claimProfile
  split
  · split
    · next j found =>
      have free : w.st.link.slots[j] = .free :=
        ProfileSlot.eq_free_of_isFree (List.find?_some (p := fun k : Fin 3 => w.st.link.slots[k].isFree) found)
      refine ⟨rfl, fun k taken => ?_, fun _ h => h⟩
      refine (getElem_set_fin _ _ _ _).trans (if_neg ?_)
      rintro rfl
      exact taken free
    · have raised := Work.raise_reports (w.modify fun s => s.withLink { s.link with
        skipped := satInc 65535 s.link.skipped, runSkipped := satInc Config.top32 s.link.runSkipped }) .profileSkip
      have frame := raised.frame
      refine ⟨?_, fun k _ => ?_, raised.flags⟩
      · generalize (Work.raise _ _).st = t at frame
        rw [frame]
        rfl
      · rw [frame]
        rfl
  · exact ⟨rfl, fun _ _ => rfl, fun _ h => h⟩

theorem Work.openRing_opens (w : Work) : w.st.Opens w.openRing.st := by
  obtain ⟨v, hv⟩ : ∃ v, v = w.modify State.renumbered := ⟨_, rfl⟩
  obtain ⟨x, hx⟩ : ∃ x, x = v.takeLiveIfWaiting.applyFix := ⟨_, rfl⟩
  obtain ⟨y, hy⟩ : ∃ y, y = (x.raiseIf
    (Machine.spacedWide (x.st.effNat Param.maxSpacing) (x.st.odo.spacing x.st.chainage)) .spacingWide).selectSegment := ⟨_, rfl⟩
  have advances : v.st.Advances y.st := by
    rw [hy, hx]
    exact (v.takeLiveIfWaiting_takes.advances.trans (Work.applyFix_advances _)).trans
      ((Work.raiseIf_reports _ _ _).advances.trans (Work.selectSegment_advances _))
  have claims := y.claimProfile_claims y.st.ring.ringSeq (y.st.effNat Param.decimation)
  have steps : w.openingSteps = y.claimProfile y.st.ring.ringSeq (y.st.effNat Param.decimation) := by
    rw [hy, hx, hv]
    rfl
  obtain ⟨z, claim, hz⟩ : ∃ z claim,
    y.claimProfile y.st.ring.ringSeq (y.st.effNat Param.decimation) = (z, claim) := ⟨_, _, rfl⟩
  rw [hz] at claims steps
  have first := advances.frame
  have second := claims.frame
  have frame : z.st = { w.st with
      ring := { w.st.ring with ringSeq := satInc Config.top32 w.st.ring.ringSeq }, params := z.st.params
      odo := { w.st.odo with pendingFix := z.st.odo.pendingFix, accumulator := z.st.odo.accumulator }
      route := z.st.route, causes := z.st.causes, link := z.st.link } := by
    conv_lhs => rw [second]
    rw [show z.st.params = y.st.params by rw [second], show z.st.odo = y.st.odo by rw [second],
      show z.st.route = y.st.route by rw [second]]
    generalize z.st.causes = causes, z.st.link = link
    conv_lhs => rw [first]
    rw [hv]
    rfl
  have slots : y.st.link.slots = w.st.link.slots := by
    rw [first, hv]
    rfl
  have opened : ∃ r expiry, r.sequence = z.st.ring.ringSeq ∧ w.openRing.st = { z.st with
      ring := { z.st.ring with asm := .opened r, stall := expiry }, envelopes := w.openRing.st.envelopes
      tracker := z.st.tracker.emptied } := by
    unfold Work.openRing
    rw [steps]
    exact ⟨_, _, rfl, rfl⟩
  obtain ⟨r, expiry, number, opened⟩ := opened
  generalize w.openRing.st = t at opened
  generalize t.envelopes = envelopes at opened
  subst opened
  obtain ⟨params, fix, accumulator, route, causes, link, frame⟩ : ∃ params fix accumulator route causes link,
    z.st = { w.st with
      ring := { w.st.ring with ringSeq := satInc Config.top32 w.st.ring.ringSeq }, params := params
      odo := { w.st.odo with pendingFix := fix, accumulator := accumulator }, route := route, causes := causes
      link := link } := ⟨_, _, _, _, _, _, frame⟩
  refine ⟨?_, ⟨r, ?_, ?_⟩, fun k taken => ?_, fun c hc => ?_⟩
  · rw [frame]
  · rw [frame]
  · rw [number, frame]
  · rw [← slots] at taken ⊢
    exact claims.slots k taken
  · exact claims.flags c (advances.flags c (by rw [hv]; exact hc))

end Sys2Proof.Machine
end

section
/-! SUPPORT. A RING_START that closes a SHORT or LONG ring (R8, R11, R13, R50, R161). -/

namespace Sys2Proof.Machine

/-! ### Counting a frame goes with the steps of a discard in any order -/

theorem State.counted_marked (s : State) (seq : Byte) (r : RingContext) (x : RingStatus) :
    (s.counted seq).marked r x = (s.marked r x).counted seq := by
  unfold State.marked
  split <;> rfl

theorem State.counted_dropProfile (s : State) (seq : Byte) (r : RingContext) :
    (s.counted seq).dropProfile r = (s.dropProfile r).counted seq := by
  unfold State.dropProfile
  split <;> rfl

theorem State.marked_frame (s : State) (r : RingContext) (x : RingStatus) :
    s.marked r x = { s with link := { s.link with events := (s.marked r x).link.events } } := by
  unfold State.marked
  split <;> rfl

theorem State.reported_keeps_flag (s : State) (c : Cause) {d : Cause} (h : flagSet s.causes d = true) :
    flagSet (s.reported c).causes d = true := by
  unfold State.reported
  split
  · exact h
  · split <;> exact flagSet_setFlag_of _ _ _ h

/-! ### A ring discarded -/

/-- The status a discarded ring ends with (R11). -/
def discardStatus (tooLong : Bool) : RingStatus := if tooLong then .long else .short

/-- The cause a discarded ring is reported by (R13). -/
def discardCause (tooLong : Bool) : Cause := if tooLong then .ringLong else .ringShort

theorem discardCause_not_fatal (tooLong : Bool) : (discardCause tooLong).cls ≠ .fatal := by cases tooLong <;> decide

/-- The ring's counts once it is discarded (R13). -/
def RingAssembler.discarded (x : RingAssembler) (tooLong : Bool) : RingAssembler :=
  if tooLong then { x with long := satInc Config.top32 x.long, discards := x.discards + 1 }
  else { x with short := satInc Config.top32 x.short, discards := x.discards + 1 }

/-- The state with a ring's mark recorded and its discard reported, the slot freed (R13, R126, R161). -/
def State.discardTold (s : State) (r : RingContext) (tooLong : Bool) : State :=
  ((s.dropProfile r).marked r (discardStatus tooLong)).reported (discardCause tooLong)

/-- The state once a ring is discarded (R13). -/
def State.ringDiscarded (s : State) (r : RingContext) (tooLong : Bool) : State :=
  (s.discardTold r tooLong).withRing { s.ring.discarded tooLong with asm := .waiting }

theorem State.discardTold_frame (s : State) (r : RingContext) (tooLong : Bool) :
    s.discardTold r tooLong = { s with
      causes := (s.discardTold r tooLong).causes
      link := { s.link with events := (s.discardTold r tooLong).link.events
                            slots := (s.discardTold r tooLong).link.slots } } := by
  unfold State.discardTold
  rw [State.reported_frame, State.marked_frame, State.dropProfile_frame]

theorem State.ringDiscarded_frame (s : State) (r : RingContext) (tooLong : Bool) :
    s.ringDiscarded r tooLong = { s with
      ring := { s.ring.discarded tooLong with asm := .waiting }, causes := (s.ringDiscarded r tooLong).causes
      link := { s.link with events := (s.ringDiscarded r tooLong).link.events
                            slots := (s.ringDiscarded r tooLong).link.slots } } := by
  unfold State.ringDiscarded
  rw [State.discardTold_frame]
  rfl

theorem State.discardTold_room {s : State} {n : Nat} (r : RingContext) (tooLong : Bool) (h : s.room (n + 2)) :
    (s.discardTold r tooLong).room n :=
  State.reported_room _ _ (State.marked_room (State.dropProfile_room h))

theorem State.counted_ringDiscarded (s : State) (seq : Byte) (r : RingContext) (tooLong : Bool) :
    (s.counted seq).ringDiscarded r tooLong = (s.ringDiscarded r tooLong).counted seq := by
  have told : (s.counted seq).discardTold r tooLong = (s.discardTold r tooLong).counted seq := by
    rw [State.discardTold, State.counted_dropProfile, State.counted_marked, State.counted_reported, State.discardTold]
  rw [State.ringDiscarded, told]
  rfl

/-- A discard with room in the event queue, HEAD_UNSTABLE at the fourth in a row (R13). -/
theorem Work.closeDiscarded_mk {s : State} (r : RingContext) (tooLong : Bool) (run : s.ctrl.run = .running)
    (h : s.room 3) : ((Work.mk s none).closeDiscarded r tooLong).modify (fun s => s.withRing { s.ring with asm := .waiting }) =
      if s.ring.discards + 1 < 4 then Work.mk (s.ringDiscarded r tooLong) none
      else Work.mk ((s.ringDiscarded r tooLong).reported .headUnstable) (some .headUnstable) := by
  have room : (s.discardTold r tooLong).room 1 := State.discardTold_room r tooLong h
  have frame := s.discardTold_frame r tooLong
  have told : ((Work.mk (s.dropProfile r) none).queueMark r (discardStatus tooLong)).raise (discardCause tooLong) =
      Work.mk (s.discardTold r tooLong) none := by
    rw [Work.queueMark_mk none r _ (State.dropProfile_room (State.room_mono h (by omega))),
      Work.raise_mk (discardCause_not_fatal tooLong)
        (State.marked_room (State.dropProfile_room (State.room_mono h (by omega))))]
    rfl
  obtain ⟨v, hv⟩ : ∃ v, v = (s.discardTold r tooLong).withRing (s.ring.discarded tooLong) := ⟨_, rfl⟩
  have waiting : v.withRing { v.ring with asm := .waiting } = s.ringDiscarded r tooLong := by rw [hv]; rfl
  have discards : v.ring.discards = s.ring.discards + 1 := by
    rw [hv]
    cases tooLong <;> rfl
  have body : (Work.mk s none).closeDiscarded r tooLong =
      (Work.mk v none).raiseIf (decide (Config.maxDiscards ≤ v.ring.discards)) .headUnstable := by
    have ring : (s.discardTold r tooLong).ring = s.ring := by rw [frame]
    have steps : (Work.mk s none).closeDiscarded r tooLong =
        let w := (((Work.mk (s.dropProfile r) none).queueMark r (discardStatus tooLong)).raise
          (discardCause tooLong)).modify fun s => s.withRing (s.ring.discarded tooLong)
        w.raiseIf (decide (Config.maxDiscards ≤ w.st.ring.discards)) .headUnstable := rfl
    rw [steps, told, hv, ← ring]
    rfl
  rw [body, discards]
  by_cases few : s.ring.discards + 1 < 4
  · have below : decide (Config.maxDiscards ≤ s.ring.discards + 1) = false := by
      rw [decide_eq_false_iff_not]
      exact not_le.2 few
    rw [if_pos few, below, Work.raiseIf_false, Work.modify_mk, waiting]
  · have reached : decide (Config.maxDiscards ≤ s.ring.discards + 1) = true := by
      rw [decide_eq_true_iff]
      exact not_lt.1 few
    have running : v.ctrl.run = .running := by
      rw [hv, State.withRing_ctrl, frame]
      exact run
    rw [if_neg few, reached, Work.raiseIf_true, Work.raise_mk_fatal rfl running (by rw [hv]; exact State.room_congr rfl room),
      Work.modify_mk, ← State.withRing_reported_asm, waiting]

/-- A SHORT or LONG ring closes (R11, R13). -/
theorem Work.closeRing_discarded {s : State} {r : RingContext} {tooLong : Bool} (run : s.ctrl.run = .running)
    (h : s.room 3) (time : if tooLong then s.ring.tMin ≤ s.ring.tMax ∧ s.ring.tMax < s.elapsed r
      else s.elapsed r < s.ring.tMin) : (Work.mk s none).closeRing r =
      if s.ring.discards + 1 < 4 then Work.mk (s.ringDiscarded r tooLong) none
      else Work.mk ((s.ringDiscarded r tooLong).reported .headUnstable) (some .headUnstable) := by
  have status : classify s.ring.tMin s.ring.tMax (s.elapsed r) = discardStatus tooLong := by
    unfold classify
    cases tooLong with
    | false => exact if_pos time
    | true =>
      obtain ⟨window, late⟩ := time
      rw [if_neg (by omega), if_neg (by omega)]
      rfl
  rw [← Work.closeDiscarded_mk r tooLong run h]
  unfold Work.closeRing
  dsimp only
  rw [status]
  cases tooLong <;> rfl

/-- A RING_START with a ring open (R11). -/
theorem Work.ringStart_of_opened {s : State} {r : RingContext} (opened : s.ring.asm = .opened r) :
    (Work.mk s none).ringStart =
      let w := ((Work.mk s none).closeRing r).settle
      if w.st.ctrl.run = .running then w.openRing else w := by
  unfold Work.ringStart
  dsimp only
  rw [opened]

/-- The ring's counts once it is discarded, below their tops (R13). -/
theorem RingAssembler.discarded_eq {x : RingAssembler} (short : x.short < Config.top32) (long : x.long < Config.top32)
    (tooLong : Bool) : { x.discarded tooLong with asm := .waiting } = { x with
      asm := .waiting, discards := x.discards + 1
      short := x.short + (if tooLong then 0 else 1), long := x.long + (if tooLong then 1 else 0) } := by
  cases tooLong
  · simp [RingAssembler.discarded, satInc, short]
  · simp [RingAssembler.discarded, satInc, long]

/-- Whether a frame arrives in sequence is the receiver's alone. -/
theorem State.Receives.of_head {s t : State} {frame : List Byte} {seq : Byte} {f : HeadFrame}
    (h : s.Receives frame seq f) (same : t.head = s.head) : t.Receives frame seq f :=
  ⟨by rw [same]; exact h.symbols, by rw [same]; exact h.between, by rw [same]; exact h.locked, h.content,
    by rw [same]; exact h.inSequence⟩

/-- Settles O22: the ring discarded as `State.ringDiscarded` has it, then the opening or fault entry. -/
theorem ringDiscarded : Obligations.RingDiscarded := by
  intro s r frame seq counter tooLong received run opened time short long number₀ room freed closed
  have closed_eq : closed = s.ringDiscarded r tooLong := by
    rw [State.ringDiscarded, RingAssembler.discarded_eq short long]
    rfl
  clear_value closed
  obtain ⟨c, hc⟩ : ∃ c, c = closed.counted seq := ⟨_, rfl⟩
  have frameC : c = { s.counted seq with
      ring := { s.ring with
        asm := .waiting, discards := s.ring.discards + 1
        short := s.ring.short + (if tooLong then 0 else 1), long := s.ring.long + (if tooLong then 1 else 0) }
      causes := c.causes, link := c.link } := by
    rw [hc, closed_eq, State.ringDiscarded_frame, RingAssembler.discarded_eq short long]
    rfl
  have told : flagSet c.causes (if tooLong then .ringLong else .ringShort) = true := by
    rw [hc, closed_eq]
    exact State.reported_flag ..
  have closes : (Work.mk (s.counted seq) none).closeRing r =
      if s.ring.discards + 1 < 4 then Work.mk c none
      else Work.mk (c.reported .headUnstable) (some .headUnstable) := by
    rw [hc, closed_eq, ← State.counted_ringDiscarded]
    exact Work.closeRing_discarded (s := s.counted seq) run (State.room_congr (s := s) rfl (State.room_mono room (by omega)))
      time
  have roomC {n : Nat} (h : s.room (n + 2)) : c.room n := by
    rw [hc, closed_eq]
    exact State.room_congr (s := s.discardTold r tooLong) rfl (State.discardTold_room r tooLong h)
  have runC : c.ctrl.run = .running := by rw [frameC]; exact run
  have handed : exec (.headFrameGood (framed frame)) s = (Work.mk (s.counted seq) none).ringStart.done := received.exec_eq
  rw [Work.ringStart_of_opened (s := s.counted seq) opened, closes] at handed
  have opens (few : s.ring.discards + 1 < 4) :
      exec (.headFrameGood (framed frame)) s = (Work.mk c none).openRing.done := by
    rw [handed, if_pos few, Work.settle_mk]
    dsimp only
    rw [if_pos runC]
  have faults (many : ¬ s.ring.discards + 1 < 4) : exec (.headFrameGood (framed frame)) s =
      .next (Work.mk (c.reported .headUnstable) (some .headUnstable)).settle.st := by
    have ended := congrArg RunController.run
      (Work.settle_faulted (s := c.reported .headUnstable) (c := .headUnstable) (.inl (by rw [State.reported_ctrl, runC]))).ctrl
    rw [handed, if_neg many]
    dsimp only
    rw [if_neg (by rw [ended]; nofun), Work.done_eq, Work.settle_settle]
  refine ⟨fun few => ?_, fun third more => ?_, ?_⟩
  · have again : closed.Receives frame seq (.ringStart counter) := by
      have head : closed.head = s.head := by rw [closed_eq, State.ringDiscarded_frame]
      exact received.of_head head
    rw [opens few, again.exec_waiting (by rw [closed_eq]; rfl), hc]
  · have tracker : (c.reported .headUnstable).tracker = s.tracker := by rw [State.reported_tracker, frameC]; rfl
    have closedNow : (c.reported .headUnstable).openRing = none := by
      rw [State.openRing, State.reported_ring, frameC]
    rw [faults (by omega), Work.settle_mk_fatal_of_none (by rw [State.reported_ctrl, runC]) closedNow
      (by rw [tracker]; exact State.reported_room _ _ (roomC more)), hc]
  · by_cases few : s.ring.discards + 1 < 4
    · have whole := Work.openRing_mk none (roomC (n := 6) (State.room_mono room (by omega)))
      have opened := (Work.mk c none).openRing_opens
      rw [whole] at opened
      rw [opens few, whole, Work.done_mk]
      generalize c.ringOpened = t at opened
      obtain ⟨frameT, ⟨r', ring, number⟩, -, flags⟩ := opened
      dsimp only at frameT ring number flags
      have tracker : t.tracker = c.tracker.emptied := by rw [frameT]
      have ctrl : t.ctrl = c.ctrl := by rw [frameT]
      refine ⟨t, rfl, ?_, ?_, ?_, ?_, ?_, flags _ told, ?_, fun _ => ⟨by rw [ctrl, runC], ?_, ?_, ?_, r', ?_, ?_⟩, fun third => ?_⟩
      · rw [ring, frameC]
      · rw [ring, frameC]
      · rw [ring, frameC]
      · rw [ring, frameC]
      · rw [frameT, frameC]; rfl
      · conv_lhs => rw [frameT, frameC]
        rw [tracker, ctrl, frameC, show t.odo = { c.odo with
          pendingFix := t.odo.pendingFix, accumulator := t.odo.accumulator } by rw [frameT], frameC]
      · rw [tracker, frameC]; rfl
      · rw [tracker, frameC]; rfl
      · rw [tracker, frameC]; rfl
      · rw [ring]
      · rw [number, frameC]
        exact if_pos number₀
      · omega
    · have running : (c.reported .headUnstable).ctrl.run = .running := by rw [State.reported_ctrl, runC]
      have entered := Work.settle_faulted (s := c.reported .headUnstable) (c := .headUnstable) (.inl running)
      have kept := (Work.mk (c.reported .headUnstable) (some .headUnstable)).settle_frame
      have flagged := entered.flags _ (State.reported_keeps_flag c .headUnstable told)
      have ring := entered.ring
      have odo := entered.odo
      have ctrl := entered.ctrl
      rw [if_pos running, State.reported_ring] at ring
      rw [State.reported_odo] at odo
      rw [State.chainage, State.reported_odo, State.reported_ring] at ctrl
      rw [faults few]
      generalize (Work.mk (c.reported .headUnstable) (some .headUnstable)).settle.st = t at *
      dsimp only at kept
      refine ⟨t, rfl, ?_, ?_, ?_, ?_, ?_, flagged, ?_, fun below => absurd below few, fun third => ⟨?_, ?_, ?_, ?_⟩⟩
      · rw [ring, frameC]
      · rw [ring, frameC]
      · rw [ring, frameC]
      · rw [ring, frameC]
      · rw [odo, frameC]
        rfl
      · have told := c.reported_frame .headUnstable
        generalize c.reported .headUnstable = v at kept told
        rw [told] at kept
        conv_lhs => rw [kept, frameC]
        rw [show t.route = s.route by rw [kept, frameC]; rfl]
        rfl
      · rw [ctrl]
      · rw [ring]
      · rw [ring, frameC]
      · rw [ctrl, frameC]
        rfl

end Sys2Proof.Machine
end

section
/-! SUPPORT. Verdicts and the ring summary, and what an evaluation pass can emit (R51, R54, R55, R75). -/

namespace Sys2Proof.Machine

/-! ### Verdicts -/

/-- A verdict by the first row that applies (R51). -/
theorem State.verdict_eq (s : State) (slot : Option SlotId) (i : Sector) : s.verdict slot i =
    let a := s.tracker.accumulators[i]
    let limit : BitVec 16 := match slot with | some k => s.envelopes[k].live[i] | none => 0
    if limit = 0 then .unguarded
    else if a.valid < s.effNat Param.minValid then .unseen
    else if s.effNat Param.hitThreshold ≤ a.infringing then .infringe
    else if s.effNat Param.hitThreshold ≤ a.infringing + a.warning then .warn
    else .clear := by
  have zero (b : BitVec 16) : b.toNat = 0 ↔ b = 0 := (BitVec.toNat_eq (x := b) (y := 0)).symm
  unfold State.verdict verdictOf limitOf
  cases slot with
  | none => rfl
  | some k => simp only [zero]

/-! ### The ring summary -/

/-- Whether a verdict is of a judged sector (R54). -/
def Verdict.judges (v : Verdict) : Prop := v = .infringe ∨ v = .warn ∨ v = .clear

/-- What a summary's least clearance `o` says of the sectors of a list (R54). -/
structure LeastOf (judged : Sector → Prop) (least : Sector → Option Least) (xs : List Sector) (o : Option Least) :
    Prop where
  absent : o = none → ∀ i ∈ xs, judged i → least i = none
  first : ∀ l, o = some l → ∃ i ∈ xs, judged i ∧ least i = some l ∧ ∀ j ∈ xs, ∀ m, judged j → least j = some m →
    l.clearance ≤ m.clearance ∧ (j < i → l.clearance < m.clearance)

section
variable {judged : Sector → Prop} {least : Sector → Option Least} {xs : List Sector} {o : Option Least} {x : Sector}
variable (h : LeastOf judged least xs o)
include h

/-- A sector that is not judged, or has no clearance, has no part in it. -/
theorem LeastOf.skip (quiet : judged x → least x = none) : LeastOf judged least (xs ++ [x]) o := by
  constructor
  · intro absent i hi judges
    rcases List.mem_append.1 hi with earlier | last
    · exact h.absent absent i earlier judges
    · rw [List.mem_singleton.1 last] at judges ⊢
      exact quiet judges
  · intro l some
    obtain ⟨i, hi, judges, own, below⟩ := h.first l some
    refine ⟨i, List.mem_append_left _ hi, judges, own, fun j hj m judged' other => ?_⟩
    rcases List.mem_append.1 hj with earlier | last
    · exact below j earlier m judged' other
    · rw [List.mem_singleton.1 last] at judged' other
      rw [quiet judged'] at other
      cases other

/-- A judged sector's clearance takes the place of the least one if it is strictly lesser (R54). -/
theorem LeastOf.offer {l : Least} (last : ∀ j ∈ xs, j < x) (judges : judged x) (own : least x = some l) :
    LeastOf judged least (xs ++ [x]) (if improves l.clearance o then some l else o) := by
  constructor
  · intro absent
    split at absent
    · cases absent
    · next keeps =>
      rw [absent] at keeps
      exact absurd rfl keeps
  · intro m some
    split at some
    · next takes =>
      obtain rfl := Option.some.inj some
      refine ⟨x, List.mem_append_right _ (List.mem_singleton_self x), judges, own, fun j hj n judged' other => ?_⟩
      rcases List.mem_append.1 hj with earlier | here
      · cases o with
        | none =>
          rw [h.absent rfl j earlier judged'] at other
          cases other
        | some k =>
          obtain ⟨i, -, -, -, below⟩ := h.first k rfl
          have lesser : l.clearance < k.clearance := of_decide_eq_true takes
          have := (below j earlier n judged' other).1
          exact ⟨by omega, fun _ => by omega⟩
      · rw [List.mem_singleton.1 here] at other ⊢
        rw [own] at other
        obtain rfl := Option.some.inj other
        exact ⟨le_rfl, fun before => absurd before (lt_irrefl x)⟩
    · next keeps =>
      obtain ⟨i, hi, judges', own', below⟩ := h.first m some
      refine ⟨i, List.mem_append_left _ hi, judges', own', fun j hj n judged' other => ?_⟩
      rcases List.mem_append.1 hj with earlier | here
      · exact below j earlier n judged' other
      · rw [List.mem_singleton.1 here] at other ⊢
        rw [own] at other
        obtain rfl := Option.some.inj other
        have keeps : ¬ l.clearance < m.clearance := by
          rw [some] at keeps
          exact fun lesser => keeps (decide_eq_true lesser)
        exact ⟨by omega, fun before => absurd (before.trans (last i hi)) (lt_irrefl x)⟩

end

/-- A summary folded over sectors with given verdicts and accumulators. -/
def summaryOf (v : Sector → Verdict) (a : Sector → Accumulator) (xs : List Sector) : Summary :=
  xs.foldl (fun sm i => sm.add (v i) (a i)) .none

theorem summaryOf_concat (v : Sector → Verdict) (a : Sector → Accumulator) (xs : List Sector) (x : Sector) :
    summaryOf v a (xs ++ [x]) = (summaryOf v a xs).add (v x) (a x) := by
  rw [summaryOf, List.foldl_append]
  rfl

/-- The counts of a summary (R54). -/
theorem summaryOf_counts (v : Sector → Verdict) (a : Sector → Accumulator) (xs : List Sector) :
    (summaryOf v a xs).unguarded = xs.countP (fun i => v i = .unguarded) ∧
    (summaryOf v a xs).unseen = xs.countP (fun i => v i = .unseen) ∧
    (summaryOf v a xs).infringe = xs.countP (fun i => v i = .infringe) ∧
    (summaryOf v a xs).warn = xs.countP (fun i => v i = .warn) ∧
    (summaryOf v a xs).clear = xs.countP (fun i => v i = .clear) := by
  induction xs using List.reverseRecOn with
  | nil => exact ⟨rfl, rfl, rfl, rfl, rfl⟩
  | append_singleton xs x ih =>
    obtain ⟨unguarded, unseen, infringe, warn, clear⟩ := ih
    simp only [summaryOf_concat, List.countP_append, List.countP_singleton, ← unguarded, ← unseen, ← infringe, ← warn,
      ← clear]
    cases v x <;> exact ⟨rfl, rfl, rfl, rfl, rfl⟩

/-- The least clearance of a summary (R54). -/
theorem summaryOf_least (v : Sector → Verdict) (a : Sector → Accumulator) {xs : List Sector} (ascending : xs.Pairwise (· < ·)) :
    LeastOf (fun i => (v i).judges) (fun i => (a i).least) xs (summaryOf v a xs).least := by
  induction xs using List.reverseRecOn with
  | nil => exact ⟨fun _ _ h => by simp at h, fun _ h => by cases h⟩
  | append_singleton xs x ih =>
    obtain ⟨earlier, -, below⟩ := List.pairwise_append.1 ascending
    have before := ih earlier
    have last : ∀ j ∈ xs, j < x := fun j hj => below j hj x (List.mem_singleton_self x)
    rw [summaryOf_concat]
    have judging (judges : (v x).judges) : LeastOf (fun i => (v i).judges) (fun i => (a i).least) (xs ++ [x])
        (match (a x).least with
          | some l => if improves l.clearance (summaryOf v a xs).least then some l else (summaryOf v a xs).least
          | none => (summaryOf v a xs).least) := by
      cases own : (a x).least with
      | none => exact before.skip fun _ => own
      | some l => exact before.offer last judges own
    cases verdict : v x with
    | unguarded => exact before.skip fun judges => by rw [verdict] at judges; simp [Verdict.judges] at judges
    | unseen => exact before.skip fun judges => by rw [verdict] at judges; simp [Verdict.judges] at judges
    | infringe => exact judging (.inl verdict)
    | warn => exact judging (.inr (.inl verdict))
    | clear => exact judging (.inr (.inr verdict))

/-! ### What a pass emits -/

/-- TABLE_FULL is the only cause a pass raises (R69, R70). -/
def Pass.OnlyTableFull (p : Pass) : Prop := ∀ c, Emission.cause c ∈ p.out → c = .tableFull

namespace Pass.OnlyTableFull

variable {e : PassEnv} {i : Sector} {p q : Pass} (h : p.OnlyTableFull)
include h

theorem of_out (same : q.out = p.out) : q.OnlyTableFull := fun c hc => h c (same ▸ hc)

theorem record {b : EventBody} (out : q.out = p.out ++ [.record b]) : q.OnlyTableFull := by
  intro c hc
  rw [out, List.mem_append, List.mem_singleton] at hc
  rcases hc with earlier | last
  · exact h c earlier
  · cases last

theorem tableFull (out : q.out = p.out ++ [.cause .tableFull]) : q.OnlyTableFull := by
  intro c hc
  rw [out, List.mem_append, List.mem_singleton] at hc
  rcases hc with earlier | last
  · exact h c earlier
  · exact Emission.cause.inj last

theorem openNew (k : Streak) : (p.openNew e i k).OnlyTableFull := h.record rfl

theorem block (k : Streak) : (p.block i k).OnlyTableFull := h.of_out rfl

theorem evict (v : Intrusion) : (p.evict e v).OnlyTableFull := h.record rfl

theorem attemptAlone (k : Streak) : (p.attemptAlone e i k).OnlyTableFull := by
  unfold Pass.attemptAlone
  have full : (p.emit (.cause .tableFull)).OnlyTableFull := h.tableFull rfl
  split
  · exact (h.block k).tableFull rfl
  · split
    · exact h.openNew k
    · dsimp only
      split
      · split
        · exact (full.evict _).openNew k
        · exact full.block k
      · exact full.block k

theorem attempt (k : Streak) : (p.attempt e i k).OnlyTableFull := by
  unfold Pass.attempt
  split
  · exact h.attemptAlone k
  · exact h.of_out rfl
  · exact h.record rfl

theorem advance (n : Nat) (k : Streak) : (p.advance e i n k).OnlyTableFull := by
  unfold Pass.advance
  split
  · exact h.attempt k
  · exact h.of_out rfl

theorem stepInfringe (offer : Least) : (p.stepInfringe e i offer).OnlyTableFull := by
  unfold Pass.stepInfringe
  split
  · exact h.advance _ _
  · exact h.advance _ _
  · exact h.attempt _
  · exact h.of_out rfl
  · exact h.of_out rfl

theorem quiet (n owner : Nat) : (p.quiet e i n owner).OnlyTableFull := by
  unfold Pass.quiet
  split <;> exact h.of_out rfl

theorem stepQuiet : (p.stepQuiet e i).OnlyTableFull := by
  unfold Pass.stepQuiet
  split
  · exact h
  · exact h.of_out rfl
  · exact h.of_out rfl
  · exact h.quiet _ _
  · exact h.quiet _ _

theorem stepUnguarded : (p.stepUnguarded i).OnlyTableFull := by
  unfold Pass.stepUnguarded
  split
  · exact h
  all_goals exact h.of_out rfl

theorem step (v : Verdict) (offer : Option Least) : (p.step e v offer i).OnlyTableFull := by
  unfold Pass.step
  split
  · exact h.stepInfringe _
  · exact h
  · exact h.stepQuiet
  · exact h.stepQuiet
  · exact h
  · exact h.stepUnguarded

theorem finish : (p.finish e).OnlyTableFull := by
  intro c hc
  rcases List.mem_append.1 hc with earlier | closes
  · exact h c earlier
  · obtain ⟨x, -, record⟩ := List.mem_map.1 closes
    cases record

end Pass.OnlyTableFull

theorem State.evaluate_onlyTableFull (s : State) (r : RingContext) : (s.evaluate r).OnlyTableFull := by
  unfold State.evaluate
  refine Pass.OnlyTableFull.finish ?_
  have start : s.passStart.OnlyTableFull := fun _ h => by cases h
  generalize s.passStart = p at start
  induction List.finRange 256 generalizing p with
  | nil => exact start
  | cons i is ih => exact ih _ (start.step _ _)

end Sys2Proof.Machine
end

section
/-! SUPPORT. An ACCEPTED close (R11, R12, R75, R85, R126, R161). -/

namespace Sys2Proof.Machine

/-! ### What a pass emits, with room in the event queue -/

theorem State.emitted_cons (s : State) (e : Emission) (out : List Emission) :
    s.emitted (e :: out) = (match e with | .record b => s.recorded b | .cause c => s.reported c).emitted out := rfl

theorem Work.foldl_emit_mk (out : List Emission) {s : State} (f : Option Cause) (h : s.room out.length)
    (only : ∀ c, Emission.cause c ∈ out → c = .tableFull) :
    out.foldl Work.emit (Work.mk s f) = { st := s.emitted out, fatal := f } := by
  induction out generalizing s with
  | nil => rfl
  | cons e out ih =>
    have room : s.room (out.length + 1) := h
    have one : s.room 1 := State.room_mono room (by omega)
    have later : ∀ c, Emission.cause c ∈ out → c = .tableFull := fun c hc => only c (List.mem_cons_of_mem _ hc)
    rw [List.foldl_cons, State.emitted_cons]
    cases e with
    | record b => rw [Work.emit, Work.queue_mk b one, ih (State.recorded_room _ _ room) later]
    | cause c =>
      have full : c.cls ≠ .fatal := by rw [only c List.mem_cons_self]; decide
      rw [Work.emit, Work.raise_mk full one, ih (State.reported_room _ _ room) later]

theorem State.emitted_room {s : State} {n : Nat} (out : List Emission) (h : s.room (out.length + n)) :
    (s.emitted out).room n := by
  induction out generalizing s with
  | nil => exact State.room_mono h (by simp)
  | cons e out ih =>
    have room : s.room (out.length + n + 1) := State.room_mono h (by simp only [List.length_cons]; omega)
    rw [State.emitted_cons]
    cases e with
    | record b => exact ih (State.recorded_room _ _ room)
    | cause c => exact ih (State.reported_room _ _ room)

theorem State.emitted_frame (s : State) (out : List Emission) : s.emitted out = { s with
    causes := (s.emitted out).causes, link := { s.link with events := (s.emitted out).link.events } } := by
  induction out generalizing s with
  | nil => rfl
  | cons e out ih =>
    rw [State.emitted_cons]
    cases e with
    | record b =>
      rw [ih]
      rfl
    | cause c =>
      have frame := s.reported_frame c
      have later := ih (s.reported c)
      dsimp only
      generalize s.reported c = u at frame later
      generalize u.emitted out = t at later
      rw [later, frame]

theorem State.counted_emitted (s : State) (seq : Byte) (out : List Emission) :
    (s.counted seq).emitted out = (s.emitted out).counted seq := by
  induction out generalizing s with
  | nil => rfl
  | cons e out ih =>
    rw [State.emitted_cons, State.emitted_cons]
    cases e with
    | record b => exact ih (s.recorded b)
    | cause c =>
      dsimp only
      rw [State.counted_reported, ih]

/-! ### The profile made ready -/

theorem State.makeReady_frame (s : State) (r : RingContext) (x : Summary) : s.makeReady r x = { s with
    link := (s.makeReady r x).link, freeIndex := (s.makeReady r x).freeIndex } := by
  unfold State.makeReady
  split
  · split <;> rfl
  · rfl

theorem State.makeReady_events (s : State) (r : RingContext) (x : Summary) :
    (s.makeReady r x).link.events = s.link.events := by
  unfold State.makeReady
  split
  · split <;> rfl
  · rfl

theorem State.counted_makeReady (s : State) (seq : Byte) (r : RingContext) (x : Summary) :
    (s.counted seq).makeReady r x = (s.makeReady r x).counted seq := by
  unfold State.makeReady
  have slots : (s.counted seq).link = s.link := rfl
  rw [slots]
  split
  · split <;> rfl
  · rfl

/-- A FILLING slot is READY with the ring and its summary (R161). -/
theorem State.makeReady_slot {s : State} {r : RingContext} {k : Fin 3} {points : List Point} {n : Nat} {truncated : Bool}
    (x : Summary) (own : r.profileSlot = some k) (filling : s.link.slots[k] = .filling points n truncated) :
    ∃ p : Profile, (s.makeReady r x).link.slots[k] = .ready p ∧ p.ring = r ∧ p.points = points ∧ p.summary = x ∧
      p.truncated = truncated ∧ p.skipped = s.link.skipped ∧ p.nextSegment = 0 := by
  refine ⟨{ ring := r, summary := x, truncated := truncated, skipped := s.link.skipped, points := points
            nextSegment := 0, spacingFill := Config.absentSpacing s.freeIndex }, ?_, rfl, rfl, rfl, rfl, rfl, rfl⟩
  unfold State.makeReady
  rw [own]
  dsimp only
  rw [filling]
  exact (getElem_set_fin ..).trans (if_pos rfl)

/-! ### The close -/

/-- The tracker as the evaluation pass leaves it (R75, R85). -/
def State.passed (s : State) (r : RingContext) : State := s.withTracker (s.evaluated r)

/-- The ring's counts once it is accepted (R12). -/
def RingAssembler.accepts (x : RingAssembler) : RingAssembler :=
  { x with asm := .waiting, discards := 0, accepted := satInc Config.top32 x.accepted }

/-- The state with a ring's pass done, its profile ready and its mark recorded (R75, R126, R161). -/
def State.acceptTold (s : State) (r : RingContext) : State :=
  (((s.passed r).emitted (s.evaluate r).out).makeReady r (s.summary r.slot)).marked r .accepted

/-- The state once a ring has closed ACCEPTED (R11, R12). -/
def State.ringAccepted (s : State) (r : RingContext) : State :=
  ((s.acceptTold r).withRing s.ring.accepts).withOdo { s.odo with spacingRef := some r.chainage }

theorem State.acceptTold_frame (s : State) (r : RingContext) : s.acceptTold r = { s with
    tracker := s.evaluated r, causes := (s.acceptTold r).causes, link := (s.acceptTold r).link
    freeIndex := (s.acceptTold r).freeIndex } := by
  unfold State.acceptTold
  rw [State.marked_frame, State.makeReady_frame, State.emitted_frame]
  rfl

/-- What an ACCEPTED close leaves alone and changes, told by the state `u` before its counts (R12). -/
theorem Work.closeRing_accepted_of {s u : State} {r : RingContext} {f : Option Cause} (window : s.ring.tMin ≤ s.elapsed r)
    (inTime : s.elapsed r ≤ s.ring.tMax)
    (told : (((Work.mk s none).evaluate r).modify fun u => u.makeReady r (s.summary r.slot)).queueMark r .accepted =
      Work.mk u f)
    (ring : u.ring = s.ring) (odo : u.odo = s.odo) : (Work.mk s none).closeRing r =
      Work.mk ((u.withRing s.ring.accepts).withOdo { s.odo with spacingRef := some r.chainage }) f := by
  have status : classify s.ring.tMin s.ring.tMax (s.elapsed r) = .accepted := by
    unfold classify
    rw [if_neg (by omega), if_pos inTime]
  have closed : (Work.mk s none).closeAccepted r = (Work.mk u f).modify fun s =>
      (s.withRing { s.ring with discards := 0, accepted := satInc Config.top32 s.ring.accepted }).withOdo
        { s.odo with spacingRef := some r.chainage } := by
    rw [← told]
    rfl
  unfold Work.closeRing
  dsimp only
  rw [status]
  dsimp only
  rw [closed, Work.modify_mk, Work.modify_mk, ← ring, ← odo]
  rfl

/-- An ACCEPTED close with room in the event queue (R11, R12). -/
theorem Work.closeRing_accepted {s : State} {r : RingContext} (window : s.ring.tMin ≤ s.elapsed r)
    (inTime : s.elapsed r ≤ s.ring.tMax) (h : s.room ((s.evaluate r).out.length + 1)) :
    (Work.mk s none).closeRing r = Work.mk (s.ringAccepted r) none := by
  have room : ((s.passed r).emitted (s.evaluate r).out).room 1 :=
    State.emitted_room _ (State.room_congr (s := s) rfl h)
  have evaluated : (Work.mk s none).evaluate r = Work.mk ((s.passed r).emitted (s.evaluate r).out) none :=
    Work.foldl_emit_mk (s := s.passed r) (s.evaluate r).out none
      (State.room_congr (s := s) rfl (State.room_mono h (by omega))) (s.evaluate_onlyTableFull r)
  have frame := s.acceptTold_frame r
  refine Work.closeRing_accepted_of window inTime ?_ (by rw [frame]) (by rw [frame])
  rw [evaluated, Work.modify_mk, Work.queueMark_mk none r .accepted (State.room_congr (State.makeReady_events ..) room)]
  rfl

/-- Counting a frame has no part in it. -/
theorem State.counted_ringAccepted (s : State) (seq : Byte) (r : RingContext) :
    (s.counted seq).ringAccepted r = (s.ringAccepted r).counted seq := by
  have told : (s.counted seq).acceptTold r = (s.acceptTold r).counted seq := by
    rw [State.acceptTold, State.acceptTold, ← State.counted_marked, ← State.counted_makeReady, ← State.counted_emitted]
    rfl
  rw [State.ringAccepted, told]
  rfl

/-! ### The close, whatever room there is -/

/-- What a report leaves of the state, the link as it is after it. -/
theorem State.Reports.frame_link {s t : State} (h : s.Reports t) :
    t = { s with causes := t.causes, link := t.link } := by
  have link : t.link = { s.link with events := t.link.events } := congrArg State.link h.frame
  conv_lhs => rw [h.frame]
  rw [← link]

/-- What an ACCEPTED close changes of `s` (R11, R12, R75, R161). -/
structure State.Accepts (s : State) (r : RingContext) (t : State) : Prop where
  frame : t = { s with
    ring := s.ring.accepts, odo := { s.odo with spacingRef := some r.chainage }, tracker := s.evaluated r
    causes := t.causes, link := t.link, freeIndex := t.freeIndex }
  ready : ∀ (k : Fin 3) (points : List Point) (n : Nat) (truncated : Bool), r.profileSlot = some k →
    s.link.slots[k] = .filling points n truncated → ∃ p : Profile, t.link.slots[k] = .ready p ∧ p.ring = r ∧
      p.points = points ∧ p.summary = s.summary r.slot ∧ p.truncated = truncated ∧ p.skipped = s.link.skipped ∧
      p.nextSegment = 0

theorem Work.closeRing_accepts {s : State} {r : RingContext} (window : s.ring.tMin ≤ s.elapsed r)
    (inTime : s.elapsed r ≤ s.ring.tMax) : s.Accepts r ((Work.mk s none).closeRing r).st ∧
      ((Work.mk s none).closeRing r).OnlyLoss := by
  obtain ⟨v, hv⟩ : ∃ v, v = (Work.mk s none).evaluate r := ⟨_, rfl⟩
  obtain ⟨w, hw⟩ : ∃ w, w = (v.modify fun u => u.makeReady r (s.summary r.slot)).queueMark r .accepted := ⟨_, rfl⟩
  have emits : (s.passed r).Reports v.st := by
    rw [hv]
    exact Work.foldl_emit_reports (s.evaluate r).out (Work.mk (s.passed r) none)
  have marks : (v.st.makeReady r (s.summary r.slot)).Reports w.st := by
    rw [hw]
    exact (v.modify fun u => u.makeReady r (s.summary r.slot)).queueMark_reports r .accepted
  have loss : w.OnlyLoss := by
    rw [hw, hv]
    refine Work.OnlyLoss.queueMark (.modify ?_ _) r .accepted
    refine Work.OnlyLoss.foldl (s.evaluate r).out (fun u e he hu => ?_) (Work.OnlyLoss.of_none (s := s.passed r))
    cases e with
    | record b => exact hu.queue b
    | cause c =>
      rw [s.evaluate_onlyTableFull r c he]
      exact hu.raise (by decide)
  have frame : w.st = { s with
      tracker := s.evaluated r, causes := w.st.causes, link := w.st.link, freeIndex := w.st.freeIndex } := by
    have first := emits.frame_link
    have second := v.st.makeReady_frame r (s.summary r.slot)
    have third := marks.frame_link
    generalize v.st.makeReady r (s.summary r.slot) = u at second third
    conv_lhs => rw [third, second, first]
    rw [show w.st.freeIndex = u.freeIndex by rw [third]]
    rfl
  have closes := Work.closeRing_accepted_of (u := w.st) (f := w.fatal) window inTime (by rw [← hv, ← hw]) (by rw [frame])
    (by rw [frame])
  rw [closes]
  refine ⟨⟨?_, fun k points n truncated own filling => ?_⟩, loss.of_fatal rfl⟩
  · conv_lhs => rw [frame]
    rfl
  · have slots : v.st.link.slots = s.link.slots := by rw [emits.frame]; rfl
    have skipped : v.st.link.skipped = s.link.skipped := by rw [emits.frame]; rfl
    have same : w.st.link.slots = (v.st.makeReady r (s.summary r.slot)).link.slots := by rw [marks.frame]
    have ready := State.makeReady_slot (s := v.st) (s.summary r.slot) own (by rw [slots]; exact filling)
    rw [← same, skipped] at ready
    exact ready

end Sys2Proof.Machine
end

section
/-! SUPPORT. A RING_START that closes an ACCEPTED ring and opens the next (R11, R12, R75, R142, R161). -/

namespace Sys2Proof.Machine

/-! ### The slots at an opening and at fault entry -/

/-- The slot of a ring that has just opened is FILLING (R159). -/
theorem Work.openRing_filling {w : Work} {r : RingContext} {k : Fin 3} (opened : w.openRing.st.ring.asm = .opened r)
    (own : r.profileSlot = some k) : w.openRing.st.link.slots[k] = .filling [] 0 false := by
  obtain ⟨slot, slots, claims, outline⟩ := w.openRing_outline
  have ring : w.openRing.st.outline.ring = .opened r.profileSlot := by
    simp only [State.outline, opened, Assembler.outline]
  have same : w.openRing.st.link.slots = slots := congrArg Outline.slots outline
  rw [outline, own] at ring
  obtain rfl : slot = some k := RingOutline.opened.inj ring
  rw [same]
  cases claims with
  | claimed _ => exact (getElem_set_fin ..).trans (if_pos rfl)

/-- Fault entry frees the open ring's slot alone (R134, R161). -/
theorem Work.settle_slots {w : Work} {k : Fin 3} (other : ∀ r, w.st.ring.asm = .opened r → r.profileSlot ≠ some k) :
    w.settle.st.link.slots[k] = w.st.link.slots[k] := by
  have freed : w.st.outline.slotsFreed[k] = w.st.link.slots[k] := by
    unfold Outline.slotsFreed
    split
    · next j ring =>
      obtain ⟨r, opened, own⟩ := (Assembler.outline_eq_opened_iff _ _).1 ring
      exact (getElem_set_fin ..).trans (if_neg fun same => other r opened (by rw [own, same]))
    · rfl
  rcases w.settle_outline with ⟨same, -⟩ | ⟨-, x, ended⟩
  · exact congrArg (fun o : Outline => o.slots[k]) same
  · have slots : w.settle.st.link.slots = (w.st.outline.faulted x).slots := congrArg Outline.slots ended
    rw [slots, Outline.faulted, Outline.ended]
    split
    · exact freed
    · rfl

/-! ### What the frame leaves in every case -/

/-- What of the state the rings have no part in. -/
structure State.KeepsFront (s t : State) : Prop where
  clock : t.clock = s.clock
  pins : t.pins = s.pins
  filters : t.filters = s.filters
  head : t.head = s.head
  pending : t.pending = s.pending

theorem State.KeepsFront.trans {s t u : State} (h : s.KeepsFront t) (k : t.KeepsFront u) : s.KeepsFront u :=
  ⟨k.clock.trans h.clock, k.pins.trans h.pins, k.filters.trans h.filters, k.head.trans h.head,
    k.pending.trans h.pending⟩

theorem State.KeepsFront.frame {s t : State} (h : s.KeepsFront t) : t = { s with
    ring := t.ring, params := t.params, envelopes := t.envelopes, tracker := t.tracker, odo := t.odo
    route := t.route, ctrl := t.ctrl, link := t.link, causes := t.causes, freeIndex := t.freeIndex } := by
  rw [← h.clock, ← h.pins, ← h.filters, ← h.head, ← h.pending]

/-- What a RING_START that closes the ring `r` ACCEPTED leaves of `s`, whether the next ring opens or a lost record ends
the run (R11, R12, R142). -/
structure State.ClosesAccepted (s : State) (r : RingContext) (t : State) : Prop where
  discards : t.ring.discards = 0
  accepted : t.ring.accepted = satInc Config.top32 s.ring.accepted
  short : t.ring.short = s.ring.short
  long : t.ring.long = s.ring.long
  spacingRef : t.odo.spacingRef = some r.chainage
  counter : t.tracker.counter = (s.evaluate r).counter
  ready : ∀ (k : Fin 3) (points : List Point) (n : Nat) (truncated : Bool), r.profileSlot = some k →
    s.link.slots[k] = .filling points n truncated → ∃ p : Profile, t.link.slots[k] = .ready p ∧ p.ring = r ∧
      p.points = points ∧ p.summary = s.summary r.slot ∧ p.truncated = truncated ∧ p.skipped = s.link.skipped ∧
      p.nextSegment = 0
  front : s.KeepsFront t

section
variable {s u t : State} {r : RingContext}

theorem State.Accepts.closes (h : s.Accepts r t) : s.ClosesAccepted r t := by
  obtain ⟨frame, ready⟩ := h
  refine ⟨?_, ?_, ?_, ?_, ?_, ?_, ready, ?_⟩
  · rw [frame]; rfl
  · rw [frame]; rfl
  · rw [frame]; rfl
  · rw [frame]; rfl
  · rw [frame]
  · rw [frame]; rfl
  · constructor <;> rw [frame]

theorem State.ClosesAccepted.opens (h : s.ClosesAccepted r u) (k : u.Opens t) : s.ClosesAccepted r t := by
  obtain ⟨discards, accepted, short, long, spacingRef, counter, ready, front⟩ := h
  obtain ⟨frameT, ⟨r', ring, _⟩, taken, _⟩ := k
  have tracker : t.tracker = u.tracker.emptied := by rw [frameT]
  have odo : t.odo.spacingRef = u.odo.spacingRef := by rw [frameT]
  refine ⟨?_, ?_, ?_, ?_, odo.trans spacingRef, ?_, fun j points n truncated own filling => ?_, ?_⟩
  · rw [ring]; exact discards
  · rw [ring]; exact accepted
  · rw [ring]; exact short
  · rw [ring]; exact long
  · rw [tracker]; exact counter
  · obtain ⟨p, holds, rest⟩ := ready j points n truncated own filling
    exact ⟨p, by rw [taken j (by rw [holds]; nofun), holds], rest⟩
  · exact front.trans (by constructor <;> rw [frameT])

theorem State.ClosesAccepted.faulted {c : Cause} (h : s.ClosesAccepted r u) (k : u.Faulted c t)
    (slots : ∀ (j : Fin 3) (p : Profile), u.link.slots[j] = .ready p → t.link.slots[j] = .ready p) :
    s.ClosesAccepted r t := by
  obtain ⟨discards, accepted, short, long, spacingRef, counter, ready, front⟩ := h
  have ring := k.ring
  have frameT := k.frame
  refine ⟨?_, ?_, ?_, ?_, ?_, ?_, fun j points n truncated own filling => ?_, ?_⟩
  · rw [ring]; split <;> exact discards
  · rw [ring]; split <;> exact accepted
  · rw [ring]; split <;> exact short
  · rw [ring]; split <;> exact long
  · rw [k.odo]; exact spacingRef
  · rw [k.tracker]; exact counter
  · obtain ⟨p, holds, rest⟩ := ready j points n truncated own filling
    exact ⟨p, slots j p holds, rest⟩
  · exact front.trans (by constructor <;> rw [frameT])

end

end Sys2Proof.Machine
end

section
/-! SUPPORT. A RING_START that closes an ACCEPTED ring (R8, R11, R12). -/

namespace Sys2Proof.Machine

/-! ### The frame, whatever room there is -/

/-- What becomes of the run (R11, R142). -/
structure State.RunAfter (s : State) (r : RingContext) (t : State) : Prop where
  closes : s.ClosesAccepted r t
  goesOn : t.ctrl.run = .running → t.tracker.sectors = (s.evaluate r).sectors ∧ t.tracker.table = (s.evaluate r).table ∧
    (t.tracker.alert = true ↔ (s.evaluate r).table ≠ []) ∧
    ∃ r', t.ring.asm = .opened r' ∧ r'.sequence = satInc Config.top32 s.ring.ringSeq
  ends : t.ctrl.run ≠ .running → t.ctrl.run = .fault ∧ ∃ f, t.ctrl.faultRecord = some f ∧ f.cause = .eventLoss

/-- A record lost ends the run (R142). -/
theorem State.ClosesAccepted.lost {s : State} {r : RingContext} {w : Work} (h : s.ClosesAccepted r w.st)
    (run : w.st.ctrl.run = .running) (fatal : w.fatal = some .eventLoss)
    (kept : ∀ (j : Fin 3) (p : Profile), w.st.link.slots[j] = .ready p → ∀ r', w.st.ring.asm = .opened r' →
      r'.profileSlot ≠ some j) : s.RunAfter r w.settle.st ∧ w.settle.st.ctrl.run = .fault := by
  have entered := Work.settle_of_fatal fatal (.inl run)
  have ctrl := entered.ctrl
  have fault : w.settle.st.ctrl.run = .fault := by rw [ctrl]
  refine ⟨⟨h.faulted entered fun j p holds => ?_, fun running => ?_, fun _ => ⟨fault, _, by rw [ctrl], rfl⟩⟩, fault⟩
  · rw [Work.settle_slots (kept j p holds), holds]
  · rw [fault] at running
    cases running

/-- A RING_START that closes an ACCEPTED ring (R11, R12, R142). -/
theorem Work.ringStart_accepted {s : State} {r : RingContext} (run : s.ctrl.run = .running)
    (opened : s.ring.asm = .opened r) (window : s.ring.tMin ≤ s.elapsed r) (inTime : s.elapsed r ≤ s.ring.tMax) :
    ∃ t, (Work.mk s none).ringStart.done = .next t ∧ s.RunAfter r t := by
  rw [Work.ringStart_of_opened opened]
  obtain ⟨accepts, loss⟩ := Work.closeRing_accepts (r := r) window inTime
  generalize (Work.mk s none).closeRing r = w at accepts loss
  have closes := accepts.closes
  have frame := accepts.frame
  have runW : w.st.ctrl.run = .running := by rw [frame]; exact run
  have asmW : w.st.ring.asm = .waiting := by rw [frame]; rfl
  dsimp only
  cases fatal : w.fatal with
  | some c =>
    rw [loss c fatal] at fatal
    obtain ⟨after, fault⟩ := closes.lost runW fatal fun _ _ _ r' opened' => by rw [asmW] at opened'; cases opened'
    rw [if_neg (by rw [fault]; nofun), Work.done_eq, Work.settle_settle]
    exact ⟨_, rfl, after⟩
  | none =>
    have whole : w.settle = w := by rw [Work.eq_of_st fatal]; rfl
    rw [whole, if_pos runW]
    have opens := w.openRing_opens
    have filling := fun (r' : RingContext) (k : Fin 3) => Work.openRing_filling (w := w) (r := r') (k := k)
    have lossY := loss.openRing
    generalize w.openRing = y at opens filling lossY
    have closesY := closes.opens opens
    have runY : y.st.ctrl.run = .running := by rw [opens.frame]; exact runW
    rw [Work.done_eq]
    refine ⟨_, rfl, ?_⟩
    cases fatalY : y.fatal with
    | some c =>
      rw [lossY c fatalY] at fatalY
      refine (closesY.lost runY fatalY fun j p holds r' opened' own => ?_).1
      rw [filling r' j opened' own] at holds
      cases holds
    | none =>
      have wholeY : y.settle = y := by rw [Work.eq_of_st fatalY]; rfl
      obtain ⟨frameY, ⟨r', ring, sequence⟩, -, -⟩ := opens
      have tracker : y.st.tracker = (s.evaluated r).emptied := by rw [frameY, frame]
      rw [wholeY]
      refine ⟨closesY, fun _ => ⟨?_, ?_, ?_, r', ?_, ?_⟩, fun out => absurd runY out⟩
      · rw [tracker]; rfl
      · rw [tracker]; rfl
      · rw [tracker]
        simp [SectorTracker.emptied, State.evaluated]
      · rw [ring]
      · rw [sequence, frame]
        rfl

/-! ### The frame with room in the event queue -/

/-- Where the close is exact the frame acts as one in WAITING does from the state it leaves (R8, R11). -/
theorem State.Receives.exec_accepted {s : State} {r : RingContext} {frame : List Byte} {seq : Byte} {counter : BitVec 16}
    (received : s.Receives frame seq (.ringStart counter)) (run : s.ctrl.run = .running)
    (opened : s.ring.asm = .opened r) (window : s.ring.tMin ≤ s.elapsed r) (inTime : s.elapsed r ≤ s.ring.tMax)
    (h : s.room ((s.evaluate r).out.length + 1)) :
    exec (.headFrameGood (framed frame)) s = exec (.headFrameGood (framed frame)) (s.ringAccepted r) := by
  have told := s.acceptTold_frame r
  have ring : (s.ringAccepted r).ring.asm = .waiting := rfl
  have head : (s.ringAccepted r).head = s.head := by
    unfold State.ringAccepted
    rw [told]
    rfl
  have running : (s.ringAccepted r).ctrl.run = .running := by
    unfold State.ringAccepted
    rw [told]
    exact run
  have closed := Work.closeRing_accepted (s := s.counted seq) (r := r) window inTime (State.room_congr (s := s) rfl h)
  have handed : exec (.headFrameGood (framed frame)) s = (Work.mk (s.counted seq) none).ringStart.done := received.exec_eq
  rw [handed, Work.ringStart_of_opened (s := s.counted seq) opened, closed, State.counted_ringAccepted, Work.settle_mk]
  dsimp only
  rw [if_pos (by exact running), (received.of_head head).exec_waiting ring]

/-- The profile made ready, from a state whose slots and counters are those of `s` (R161). -/
theorem State.makeReady_eq {s u : State} (r : RingContext) (x : Summary) (freeIndex : u.freeIndex = s.freeIndex)
    (slots : u.link.slots = s.link.slots) (order : u.link.readyOrder = s.link.readyOrder)
    (skipped : u.link.skipped = s.link.skipped) (madeReady : u.link.madeReady = s.link.madeReady) :
    u.makeReady r x =
      match r.profileSlot with
      | none => u
      | some k =>
        match s.link.slots[k] with
        | .filling points _ truncated => { u with
            freeIndex := if r.spacing = none then s.freeIndex + 1 else s.freeIndex
            link := { u.link with
              slots := s.link.slots.set k (.ready
                { ring := r, summary := x, truncated := truncated, skipped := s.link.skipped
                  points := points, nextSegment := 0, spacingFill := Config.absentSpacing s.freeIndex })
              readyOrder := s.link.readyOrder ++ [k]
              skipped := 0
              madeReady := if s.link.madeReady < Config.top32 then s.link.madeReady + 1 else s.link.madeReady } }
        | _ => u := by
  unfold State.makeReady
  rw [slots, freeIndex, order, skipped, madeReady]
  cases r.profileSlot with
  | none => rfl
  | some k =>
    dsimp only
    cases s.link.slots[k] with
    | filling points n truncated =>
      simp only [Option.isNone_iff_eq_none, RecorderLink.setSlot, slots]
      rfl
    | _ => rfl

/-- Settles O21: the verdicts and the summary by their definitions, the close and the opening by the lemmas above. -/
theorem ringAccepted : Obligations.RingAccepted := by
  intro s r frame seq counter received run opened window inTime accepted number
  refine ⟨s.verdict_eq r.slot, ?_, ?_⟩
  · obtain ⟨unguarded, unseen, infringe, warn, clear⟩ :=
      summaryOf_counts (s.verdict r.slot) (fun i => s.tracker.accumulators[i]) (List.finRange 256)
    have least := summaryOf_least (s.verdict r.slot) (fun i => s.tracker.accumulators[i]) (List.pairwise_lt_finRange 256)
    refine ⟨unguarded, unseen, infringe, warn, clear, fun absent i judges => ?_, fun l some => ?_⟩
    · exact least.absent absent i (List.mem_finRange i) judges
    · obtain ⟨i, -, judges, own, below⟩ := least.first l some
      exact ⟨i, judges, own, fun j m judged => below j (List.mem_finRange j) m judged⟩
  · intro env start pass
    have pass_eq : pass = s.evaluate r := rfl
    refine ⟨fun room => ?_, ?_⟩
    · intro evaluated readied
      have closed : s.ringAccepted r = { readied.marked r .accepted with
          ring := { s.ring with asm := .waiting, discards := 0, accepted := s.ring.accepted + 1 }
          odo := { s.odo with spacingRef := some r.chainage } } := by
        have frame := (s.passed r).emitted_frame (s.evaluate r).out
        have same : evaluated = (s.passed r).emitted (s.evaluate r).out := rfl
        rw [← same] at frame
        have readied_eq : readied = evaluated.makeReady r (s.summary r.slot) :=
          (State.makeReady_eq (s := s) r _ (by rw [frame]; rfl) (by rw [frame]; rfl) (by rw [frame]; rfl)
            (by rw [frame]; rfl) (by rw [frame]; rfl)).symm
        have counts : s.ring.accepts =
            { s.ring with asm := .waiting, discards := 0, accepted := s.ring.accepted + 1 } := by
          rw [RingAssembler.accepts, satInc, if_pos accepted]
        rw [State.ringAccepted, State.acceptTold, ← same, ← readied_eq, counts]
        rfl
      rw [← closed]
      exact received.exec_accepted run opened window inTime room
    · obtain ⟨t, next, closes, goesOn, ends⟩ :=
        Work.ringStart_accepted (s := s.counted seq) run opened window inTime
      have handed : exec (.headFrameGood (framed frame)) s = (Work.mk (s.counted seq) none).ringStart.done :=
        received.exec_eq
      refine ⟨t, handed.trans next, closes.discards, closes.accepted.trans (if_pos accepted), closes.short, closes.long,
        closes.spacingRef, closes.counter, closes.ready, fun running => ?_, ends, closes.front.frame⟩
      obtain ⟨sectors, table, alert, r', ring, sequence⟩ := goesOn running
      exact ⟨sectors, table, alert, r', ring, sequence.trans (if_pos number)⟩

end Sys2Proof.Machine
end
